-- ==== Sys2Proof/Word.lean ====
section
/-! DEFINITION. The word types and the operand types of the commands. -/

namespace Sys2Proof

/-- A register word: registers are 32 bits wide (00_scope, Notation). -/
abbrev Word := BitVec 32

/-- A byte of memory. -/
abbrev Byte := BitVec 8

/-- The five command ports of R185. -/
inductive Port where
  | host | tray | cobbler | security | debug
deriving DecidableEq, Repr

/-- The seven masters that issue accesses (R230); ID 0 names no master. -/
inductive Master where
  | hostCtl | hostData | tray | mp | cobbler | security | debug
deriving DecidableEq, Repr

/-- The master's ID (R230). -/
def Master.id : Master → Nat
  | .hostCtl => 1
  | .hostData => 2
  | .tray => 3
  | .mp => 4
  | .cobbler => 5
  | .security => 6
  | .debug => 7

/-- The master with an ID, if one has it (R230). -/
def Master.ofId : Nat → Option Master
  | 1 => some .hostCtl
  | 2 => some .hostData
  | 3 => some .tray
  | 4 => some .mp
  | 5 => some .cobbler
  | 6 => some .security
  | 7 => some .debug
  | _ => none

/-- The master whose accesses a port carries (R185). -/
def Port.master : Port → Master
  | .host => .hostCtl
  | .tray => .tray
  | .cobbler => .cobbler
  | .security => .security
  | .debug => .debug

/-- A request packet (R204) without its opcode, which the command's own row gives. -/
structure Req where
  port : Port
  ver : BitVec 4
  tag : BitVec 6
  words : List Word
deriving DecidableEq, Repr

/-- A marker symbol (R174); one with SHED carries a shed notice. -/
structure Marker where
  f : Nat
  pass : Nat
  period : Nat
  job : Nat
  switchFlag : Bool
  pauseFlag : Bool
  faultFlag : Bool
  shedFlag : Bool := false
  /-- accumulated delay since emission, ps -/
  acc : Nat := 0
deriving DecidableEq, Repr

/-- What a control tick takes from outside: up to four raw samples per channel 0 to 79 (`none` lies
outside the valid band, R298, R300), the source of the tick (R296), the power measurement of the
interval (R529, in 0.01 W: VDD_CORE of each die, and every other rail of R30 together), the Welt levels (R375), and the pin levels of PIN_IO.IN. -/
structure TickIn where
  samples : List (List (Option Rat))
  fromStrobe : Bool
  coreMeas : List Nat
  restMeas : Nat
  welt : List Nat
  pins : BitVec 12
deriving DecidableEq, Repr

/-- How a lane's training ended (R153 to R156): the step that failed or the peer's answer. -/
inductive TrainResult where
  /-- the light check failed -/
  | light
  /-- the rings did not lock; `fast` training goes on in full (R154) -/
  | ring
  /-- no symbol lock -/
  | symbol
  /-- capability exchange and delay measurement done: the peer's identity, whether it is a sled, its
  highest and lowest version (1, 2, 3 for 1.0, 2.0, 2.1; above 3 for later ones), a sled's ACCESS_NS and the
  delay in units of 0.5 ns -/
  | peer (sled : Bool) (identity : Nat) (high low : Nat) (accessNs : Nat) (delay : Nat) (setPoint : Nat)
deriving DecidableEq, Repr

/-- An incoming Lace request (R164, R166, R125). -/
structure LaceReq where
  source : Nat
  tag : Nat
  gen : Nat
  write : Bool
  /-- `some w`: an access to exported window w (R126); `none`: a LACE descriptor's access -/
  window : Option Nat
  sram : Bool
  stack : Nat
  cluster : Nat
  core : Nat
  addr : Nat
  len : Nat
  data : List Byte
  /-- which 32-byte units of the data are poisoned (R113) -/
  poison : List Nat
  /-- sent again over a fallback path (R159) -/
  resent : Bool
  /-- a descriptor's transaction: the source's number of the descriptor, and the transaction's number in it
  (R166) -/
  order : Option (Nat × Nat)
deriving DecidableEq, Repr

/-- The answer that a reply carries (R162, R129). -/
inductive ReplyBody where
  | ok (data : List Byte) (poison : List Nat)
  | remoteError
deriving DecidableEq, Repr

/-- What the Lace timeout ends: a transaction, by its tag, or the wait for a member's contribution to a
collective, by the collective's index and the member's rank; `gather`: to the second phase of an ALL_REDUCE
(R161, R167, R171). -/
inductive LaceWait where
  | tag (t : Fin 8192)
  | contribution (index rank : Nat) (gather : Bool)
deriving DecidableEq, Repr

/-- What an error correction found (R112, R120). -/
inductive EccOutcome where
  | clean | corrected | uncorrectable
deriving DecidableEq, Repr

/-- A received or sent row-bus frame (R402): identifier, data, format, and the start-of-frame
instant in 20 ns units of elapsed time (R432). -/
structure CanFrame where
  ident : Nat
  extended : Bool
  data : List Byte
  dlc : Nat
  sof : Nat
  /-- measured within ±0.1 % of the bit clock (R398) -/
  inBand : Bool
deriving DecidableEq, Repr

/-- The contribution of one member to a collective (R171): the bytes that the transactions from the member of
rank `rank` bring for the member of rank `dest`. -/
structure Contribution where
  rank : Nat
  dest : Nat
  /-- the second phase of an ALL_REDUCE (R167) -/
  gather : Bool
  job : Nat
  f : Nat
  index : Nat
  op : Nat
  etype : Nat
  red : Nat
  size : Nat
  bytes : Nat
  data : List Byte
  /-- which 32-byte units of the data are poisoned (R113) -/
  poison : List Nat
deriving DecidableEq, Repr

/-- A STEWARD message (R436): TYPE is the low three bits of its identifier. -/
structure StewMsg where
  type : Nat
  schema : Nat
  term : Nat
  holder : Nat
  sender : Nat
  reason : Nat
deriving DecidableEq, Repr

end Sys2Proof
end

