-- ==== Sys2Proof/Syntax.lean ====
section
/-! DEFINITION. The commands: one constructor for each row of spec/opcode_table.json, in the table's
order. A row that is an opcode of R229 carries its request packet; a row that is an event carries what
comes about outside the block. A row bus command carries its channel as a Bool: false A, true B. -/

namespace Sys2Proof

inductive Instr where
  /-- GET_IDENTITY (R228). -/
  | getIdentity (r : Req)
  /-- GET_VERSIONS (R228). -/
  | getVersions (r : Req)
  /-- CMD_ABORT (R228). -/
  | cmdAbort (r : Req)
  /-- CMD_NOP (R228). -/
  | cmdNop (r : Req)
  /-- PWR_STATUS (R291). -/
  | pwrStatus (r : Req)
  /-- PWR_STATE_SET (R291). -/
  | pwrStateSet (r : Req)
  /-- PWR_CAP_SET (R291). -/
  | pwrCapSet (r : Req)
  /-- PWR_RAIL_STATUS (R291). -/
  | pwrRailStatus (r : Req)
  /-- RESET_DOMAIN (R488). -/
  | resetDomain (r : Req)
  /-- COOL_STATUS (R320). -/
  | coolStatus (r : Req)
  /-- COOL_FORECAST_GET (R320). -/
  | coolForecastGet (r : Req)
  /-- TOECAP_SET (R320). -/
  | toecapSet (r : Req)
  /-- LOOP_CONFIG (R344). -/
  | loopConfig (r : Req)
  /-- LOOP_MODE (R344). -/
  | loopMode (r : Req)
  /-- LOOP_COEFF_SET (R344). -/
  | loopCoeffSet (r : Req)
  /-- LOOP_STATUS (R344). -/
  | loopStatus (r : Req)
  /-- VALVE_CMD (R374). -/
  | valveCmd (r : Req)
  /-- PWM_SET (R374). -/
  | pwmSet (r : Req)
  /-- PIN_FUNC_SET (R374). -/
  | pinFuncSet (r : Req)
  /-- WELT_STATUS (R395). -/
  | weltStatus (r : Req)
  /-- WELT_ARM (R395). -/
  | weltArm (r : Req)
  /-- ROW_CONFIG (R433). -/
  | rowConfig (r : Req)
  /-- ROW_STATUS (R433). -/
  | rowStatus (r : Req)
  /-- STEWARD_STATUS (R452). -/
  | stewardStatus (r : Req)
  /-- STEWARD_CONFIG (R452). -/
  | stewardConfig (r : Req)
  /-- LAST_LOAD (R91). -/
  | lastLoad (r : Req)
  /-- LAST_COMMIT (R90). -/
  | lastCommit (r : Req)
  /-- LAST_JOB_SET (R91). -/
  | lastJobSet (r : Req)
  /-- LAST_START (R93). -/
  | lastStart (r : Req)
  /-- LAST_SWITCH (R91). -/
  | lastSwitch (r : Req)
  /-- LAST_PAUSE (R95). -/
  | lastPause (r : Req)
  /-- LAST_RESUME (R95). -/
  | lastResume (r : Req)
  /-- LAST_UNLOAD (R91). -/
  | lastUnload (r : Req)
  /-- LAST_STATUS (R91). -/
  | lastStatus (r : Req)
  /-- MEM_STATUS (R141). -/
  | memStatus (r : Req)
  /-- MEM_SCRUB_SET (R141). -/
  | memScrubSet (r : Req)
  /-- MEM_POOL_EXPORT (R141). -/
  | memPoolExport (r : Req)
  /-- CORE_SWAP (R477). -/
  | coreSwap (r : Req)
  /-- HBM_RETIRE (R479). -/
  | hbmRetire (r : Req)
  /-- REPAIR_STATUS (R488). -/
  | repairStatus (r : Req)
  /-- LACE_STATUS (R184). -/
  | laceStatus (r : Req)
  /-- LACE_ID_SET (R184). -/
  | laceIdSet (r : Req)
  /-- LACE_TRAIN (R184). -/
  | laceTrain (r : Req)
  /-- LACE_CONFIG (R184). -/
  | laceConfig (r : Req)
  /-- LACE_RETIRE (R481). -/
  | laceRetire (r : Req)
  /-- LOG_STATUS (R472). -/
  | logStatus (r : Req)
  /-- LOG_READ (R466). -/
  | logRead (r : Req)
  /-- TIME_GET (R472). -/
  | timeGet (r : Req)
  /-- TIME_SET (R456). -/
  | timeSet (r : Req)
  /-- FW_LOAD (R483). -/
  | fwLoad (r : Req)
  /-- FW_COMMIT (R483). -/
  | fwCommit (r : Req)
  /-- FW_ACTIVATE (R484). -/
  | fwActivate (r : Req)
  /-- FW_STATUS (R488). -/
  | fwStatus (r : Req)
  /-- SEC_ATTEST (R507). -/
  | secAttest (r : Req)
  /-- SEC_LIFECYCLE_SET (R507). -/
  | secLifecycleSet (r : Req)
  /-- SEC_DEBUG_UNLOCK (R507). -/
  | secDebugUnlock (r : Req)
  /-- SEC_KEY_STATUS (R507). -/
  | secKeyStatus (r : Req)
  /-- CORE_SELFTEST (R36). -/
  | coreSelftest (r : Req)
  /-- SENSOR_CAL (R304). -/
  | sensorCal (r : Req)
  /-- CAL_TABLE_LOAD (R320). -/
  | calTableLoad (r : Req)
  /-- LOOP_TEST (R333). -/
  | loopTest (r : Req)
  /-- CAPTURE_READ (R334). -/
  | captureRead (r : Req)
  /-- VALVE_TEST (R384). -/
  | valveTest (r : Req)
  /-- CMD_REQ_WRITE (R211). -/
  | cmdReqWrite (p : Port) (w : Word)
  /-- CMD_DATA_IN_WRITE (R222). -/
  | cmdDataInWrite (p : Port) (w : Word)
  /-- CMD_DATA_OUT_READ (R212). -/
  | cmdDataOutRead (p : Port)
  /-- CMD_DONE_RELEASE (R215). -/
  | cmdDoneRelease (p : Port) (hi : Bool) (mask : Word)
  /-- CMD_PEER_TIMEOUT (R220). -/
  | cmdPeerTimeout (p : Port) (tag : BitVec 6)
  /-- TRAY_DATA_WAIT_TIMEOUT (R192). -/
  | trayDataWaitTimeout
  /-- TRAY_WRITE_BUFFER_DRAIN (R192). -/
  | trayWriteBufferDrain
  /-- TRAY_SLOW_READ_COMPLETE (R191). -/
  | traySlowReadComplete
  /-- TRAY_LOW_HALF_READ (R20). -/
  | trayLowHalfRead (addr : BitVec 16)
  /-- TRAY_LOW_HALF_WRITE (R20). -/
  | trayLowHalfWrite (addr : BitVec 16) (data : BitVec 16)
  /-- TRAY_PORT_RESET (R193, R225): `TB_RST#` falls, or rises again. -/
  | trayPortReset (low : Bool)
  /-- PERST_ASSERT (R473). -/
  | perstAssert
  /-- PERST_DEASSERT (R270). -/
  | perstDeassert
  /-- CONTROL_FLR (R189). -/
  | controlFlr
  /-- DATA_FLR (R189). -/
  | dataFlr
  /-- APERTURE_ACCESS (R188). -/
  | apertureAccess (write : Bool) (off : Nat) (len : Nat) (data : List Byte)
  /-- REGISTER_WRITE (R4). -/
  | registerWrite (m : Master) (off : Nat) (be : BitVec 4) (w : Word)
  /-- MBX_DATA_WRITE (R235). -/
  | mbxDataWrite (m : Master) (ch : Fin 16) (k : Fin 16) (be : BitVec 4) (w : Word)
  /-- MBX_DOORBELL (R238). -/
  | mbxDoorbell (m : Master) (ch : Fin 16)
  /-- MBX_ACK (R238). -/
  | mbxAck (m : Master) (ch : Fin 16) (code : Byte)
  /-- TRAY_DOORBELL_ANSWER (R249). -/
  | trayDoorbellAnswer
  /-- LOCK_READ (R244). -/
  | lockRead (m : Master) (n : Fin 32)
  /-- LOCK_RELEASE (R244). -/
  | lockRelease (m : Master) (n : Fin 32) (w : Word)
  /-- LOCK_STAT_READ (R246). -/
  | lockStatRead (m : Master) (n : Fin 32)
  /-- MP_RESET (R473). -/
  | mpReset
  /-- SECURITY_PROCESSOR_RESET (R473). -/
  | securityProcessorReset
  /-- ISLAND_PROCESSOR_RESET (R473). -/
  | islandProcessorReset
  /-- ISLAND_PROCESSOR_RELEASE (R311). -/
  | islandProcessorRelease
  /-- DEBUG_TAP_RESET (R473). -/
  | debugTapReset
  /-- BRIDGE_RETRY_REISSUE (R254). -/
  | bridgeRetryReissue
  /-- ISLAND_POWER_UP (R295). -/
  | islandPowerUp
  /-- V_ISL_LOSS (R267). -/
  | vIslLoss
  /-- SECURITY_BOOT (R498). -/
  | securityBoot
  /-- PWR_BRAKE_ASSERT (R24). -/
  | pwrBrakeAssert
  /-- PWR_BRAKE_DEASSERT (R24). -/
  | pwrBrakeDeassert
  /-- PG_RISE (R262). -/
  | pgRise (rail : Fin 9)
  /-- PG_TIMEOUT (R263). -/
  | pgTimeout (rail : Fin 9)
  /-- RAIL_DOWN (R264). -/
  | railDown (rail : Fin 9)
  /-- PG_STUCK (R264). -/
  | pgStuck (rail : Fin 9)
  /-- RAIL_FAILURE (R266). -/
  | railFailure (rail : Fin 9)
  /-- POWER_UP_COMPLETE (R262). -/
  | powerUpComplete
  /-- HBM_TRAIN_DONE (R122). -/
  | hbmTrainDone (stack : Fin 6) (ok : Bool) (temp : Nat)
  /-- SMBALERT (R260). -/
  | smbalert (rails : List (Fin 9))
  /-- SMBALERT_ARA_TIMEOUT (R260). -/
  | smbalertAraTimeout (rails : List (Fin 9))
  /-- PMBUS_POLL (R260). -/
  | pmbusPoll (readings : List (Nat × Nat))
  /-- CLOCK_CHANGE_APPLY (R260). -/
  | clockChangeApply
  /-- TRAY_POWER_UP (R270). -/
  | trayPowerUp
  /-- TRAY_CLEAR_LOCKOUT (R270). -/
  | trayClearLockout
  /-- TRAY_ISLAND_OFF (R267). -/
  | trayIslandOff
  /-- STARTUP_CAP_LIFT (R268). -/
  | startupCapLift
  /-- THROTTLE_RISE (R275). -/
  | throttleRise
  /-- THROTTLE_FALL (R275). -/
  | throttleFall
  /-- PWR_THROTTLE_ESCALATE (R276). -/
  | pwrThrottleEscalate
  /-- THERMAL_LIMIT_RELEASE (R272). -/
  | thermalLimitRelease
  /-- SHED_LIMIT_RISE (R99). -/
  | shedLimitRise
  /-- WARM_REACHED (R280). -/
  | warmReached
  /-- FRAME_BOUNDARY (R98): the stretch of the frame that ends, in ps, and the package power measured over it,
  in W. -/
  | frameBoundary (stretch : Nat) (pkgW : Nat)
  /-- LAST_SWITCH_FRAME (R94). -/
  | lastSwitchFrame
  /-- FRAME_STROBE (R296). -/
  | frameStrobe (cycles : Nat)
  /-- PACKAGE_READY (R97): this package's own readiness, or the ready bit of a job that arrives on a lane of the
  tree with its STANDBY_VALID bit (R173). -/
  | packageReady (below : Option (Nat × Fin 128 × Bool))
  /-- MARKER_EMIT (R98), with the time in ps that the marker waited for its flit boundary (R174). -/
  | markerEmit (waited : Nat)
  /-- FRAME_MARKER_RECEIVE (R96): on which lane, and the residence in ps that this package measures for what it
  forwards (R174). -/
  | frameMarkerReceive (k : Marker) (lane : Fin 128) (residence : Nat)
  /-- SHED_NOTICE (R99). -/
  | shedNotice
  /-- SHED_NOTICE_RECEIVE (R99). -/
  | shedNoticeReceive (k : Marker) (lane : Fin 128) (residence : Nat)
  /-- FRAME_FAULT_TIMEOUT (R99). -/
  | frameFaultTimeout
  /-- MEMBER_MARKER_TIMEOUT (R99). -/
  | memberMarkerTimeout
  /-- JOIN (R173). -/
  | join (job leader member : Nat) (lane : Fin 128)
  /-- MATRIX_DESCRIPTOR (R49). -/
  | matrixDescriptor (cl : Fin 64) (core : Fin 64) (d : List Word) (start : Option Nat)
  /-- ADD (R64). -/
  | add (cl : Fin 64) (core : Fin 64) (d : List Word)
  /-- MUL (R64). -/
  | mul (cl : Fin 64) (core : Fin 64) (d : List Word)
  /-- FMA (R64). -/
  | fma (cl : Fin 64) (core : Fin 64) (d : List Word)
  /-- MIN (R64). -/
  | min (cl : Fin 64) (core : Fin 64) (d : List Word)
  /-- MAX (R64). -/
  | max (cl : Fin 64) (core : Fin 64) (d : List Word)
  /-- CVT (R64). -/
  | cvt (cl : Fin 64) (core : Fin 64) (d : List Word)
  /-- ENCODE (R45). -/
  | encode (cl : Fin 64) (core : Fin 64) (d : List Word)
  /-- RCP (R65). -/
  | rcp (cl : Fin 64) (core : Fin 64) (d : List Word)
  /-- RSQRT (R65). -/
  | rsqrt (cl : Fin 64) (core : Fin 64) (d : List Word)
  /-- EXP2 (R65). -/
  | exp2 (cl : Fin 64) (core : Fin 64) (d : List Word)
  /-- LOG2 (R65). -/
  | log2 (cl : Fin 64) (core : Fin 64) (d : List Word)
  /-- REDUCE_ADD (R65). -/
  | reduceAdd (cl : Fin 64) (core : Fin 64) (d : List Word)
  /-- HBM_DESCRIPTOR (R84). -/
  | hbmDescriptor (d : List Word)
  /-- LACE_DESCRIPTOR (R165). -/
  | laceDescriptor (d : List Word)
  /-- SPILL_DESCRIPTOR (R126). -/
  | spillDescriptor (d : List Word)
  /-- ALL_REDUCE (R167). -/
  | allReduce (d : List Word)
  /-- REDUCE_SCATTER (R167). -/
  | reduceScatter (d : List Word)
  /-- ALL_GATHER (R167). -/
  | allGather (d : List Word)
  /-- ALL_TO_ALL (R167). -/
  | allToAll (d : List Word)
  /-- COLLECTIVE_CONTRIBUTION_RECEIVE (R171). -/
  | collectiveContributionReceive (c : Contribution)
  /-- HBM_REREAD_COMPLETE (R120). -/
  | hbmRereadComplete (stack : Fin 6) (unit : Nat) (second : Bool) (ok : Bool)
  /-- PATROL_SCRUB (R121). -/
  | patrolScrub (stack : Fin 6) (unit : Nat) (out : EccOutcome)
  /-- SRAM_SCRUB (R112). -/
  | sramScrub (cl : Fin 64) (core : Fin 65) (addr : Nat) (out : EccOutcome)
  /-- CORE_PARITY (R39). -/
  | coreParity (cl : Fin 64) (core : Fin 65) (acc : List (Fin 1024))
  /-- LIGHT_LOSS (R145). -/
  | lightLoss (input : Fin 2)
  /-- LIGHT_RESTORED (R145). -/
  | lightRestored (input : Fin 2)
  /-- LANE_TRAINING_DONE (R153). -/
  | laneTrainingDone (lane : Fin 128) (res : TrainResult)
  /-- FLIT_REPLAY (R158): the flit's link sequence number, and the time in ns since its first transmission. -/
  | flitReplay (lane : Fin 128) (seq : BitVec 12) (age : Nat)
  /-- REPLAY_EXHAUST (R159). -/
  | replayExhaust (lane : Fin 128)
  /-- LOSS_OF_SIGNAL (R163). -/
  | lossOfSignal (lane : Fin 128)
  /-- LACE_TIMEOUT (R161). -/
  | laceTimeout (w : LaceWait)
  /-- LACE_REPLY (R162). -/
  | laceReply (tag : Fin 8192) (gen : Nat) (body : ReplyBody)
  /-- LACE_REQUEST_RECEIVE (R164). -/
  | laceRequestReceive (q : LaceReq)
  /-- RELAY_FORWARD (R150): traffic for an endpoint arrives on a lane. -/
  | relayForward (target : Nat) (sled : Bool) (lane : Fin 128)
  /-- PEER_RESET_RECEIVE (R163): the peer, coded as TARGET of R126. -/
  | peerResetReceive (peer : Nat)
  /-- RETIRE_SYMBOL_RECEIVE (R481). -/
  | retireSymbolReceive (lane : Fin 128)
  /-- CONTROL_TICK (R296). -/
  | controlTick (x : TickIn)
  /-- LOOP_OUTPUT_APPLY (R321). -/
  | loopOutputApply
  /-- TEST_DONE (R334). -/
  | testDone
  /-- LOOP_IMPLAUSIBLE (R336). -/
  | loopImplausible (slot : Fin 32)
  /-- LOOP_SATURATED (R336). -/
  | loopSaturated (slot : Fin 32)
  /-- PLAUS_WINDOW_END (R309). -/
  | plausWindowEnd (slot : Option (Fin 32))
  /-- SENSOR_FAULT (R300). -/
  | sensorFault (ch : Fin 82)
  /-- SENSOR_RECOVERED (R300). -/
  | sensorRecovered (ch : Fin 82)
  /-- SENSOR_DISAGREE (R301). -/
  | sensorDisagree (ch : Fin 82)
  /-- FLOW_PULSE (R298). -/
  | flowPulse (ch : Fin 2) (cycles : Nat)
  /-- FLOW_PULSE_TIMEOUT (R298). -/
  | flowPulseTimeout (ch : Fin 2)
  /-- CALIBRATION_COMPLETE (R304). -/
  | calibrationComplete (ch : Fin 82) (result : Nat) (offset : BitVec 16) (gain : BitVec 16)
  /-- ZONE_ENERGY_PUSH (R305): the entries of so many frames; `collides`: Cobbler starts a bridge
  transaction in the same island cycle (R254). -/
  | zoneEnergyPush (frames : Nat) (collides : Bool)
  /-- FORECAST_SEND (R307). -/
  | forecastSend (b : Bool)
  /-- FORECAST_STALE (R307). -/
  | forecastStale
  /-- TOECAP_SERVICE (R310). -/
  | toecapService (m : Master) (w : Word)
  /-- TOECAP_EXPIRY (R311). -/
  | toecapExpiry
  /-- TOECAP_RELEASE (R311). -/
  | toecapRelease (m : Master)
  /-- VALVE_PERIOD_BOUNDARY (R347). -/
  | valvePeriodBoundary (ch : Fin 20)
  /-- VALVE_COMMAND_END (R348). -/
  | valveCommandEnd (ch : Fin 20)
  /-- BOOST_END (R348). -/
  | boostEnd (ch : Fin 20) (peakReached : Bool) (dipUs : Option Nat)
  /-- PEAK_END (R348). -/
  | peakEnd (ch : Fin 20) (dipUs : Option Nat)
  /-- COIL_OVERCURRENT (R352). -/
  | coilOvercurrent (ch : Fin 20)
  /-- COIL_OPEN_LOAD (R352). -/
  | coilOpenLoad (ch : Fin 20)
  /-- VALVE_SUPPLY_LOW (R353). -/
  | valveSupplyLow
  /-- VALVE_SUPPLY_RESTORED (R353). -/
  | valveSupplyRestored
  /-- PWM_RELOAD (R358). -/
  | pwmReload (n : Fin 4)
  /-- PWM_DUTY_WRITE (R357). -/
  | pwmDutyWrite (m : Master) (n : Fin 4) (duty : BitVec 10)
  /-- TACH_EDGE (R359). -/
  | tachEdge (n : Fin 4) (cycles : Nat)
  /-- TACH_TIMEOUT (R359). -/
  | tachTimeout (n : Fin 4)
  /-- PUMP_STALL (R360). -/
  | pumpStall (n : Fin 4)
  /-- LEAK_TRIP (R377). -/
  | leakTrip (input : Fin 6) (levels : List Nat)
  /-- WELT_SENSE_FAULT (R376). -/
  | weltSenseFault (input : Fin 6)
  /-- WELT_SENSE_RECOVERED (R376). -/
  | weltSenseRecovered (input : Fin 6)
  /-- CLEAR_LEAK (R381). -/
  | clearLeak (dryLongEnough : Bool)
  /-- CLEAR_THERM (R386). -/
  | clearTherm
  /-- FLOW_BALANCE_EVALUATION (R383). -/
  | flowBalanceEvaluation (supplyMl : Nat) (returnMl : Nat)
  /-- VALVE_TEST_START_SAMPLE (R384). -/
  | valveTestStartSample (p : BitVec 12)
  /-- VALVE_TEST_RESULT (R384). -/
  | valveTestResult (p : BitVec 12)
  /-- ROW_FRAME_RECEIVE (R405). -/
  | rowFrameReceive (b : Bool) (f : CanFrame)
  /-- ROW_FRAME_SENT (R408). -/
  | rowFrameSent (b : Bool) (loopDelay : Nat)
  /-- TX_ATTEMPT_FAIL (R408); `exempt`: ISO 11898-1 exempts the error from TEC. -/
  | txAttemptFail (b : Bool) (exempt : Bool)
  /-- BUS_OFF_RECOVERY (R411). -/
  | busOffRecovery (b : Bool)
  /-- OBJECT_EXPIRED (R408). -/
  | objectExpired (b : Bool) (m : Fin 128)
  /-- OBJECT_STALE (R405). -/
  | objectStale (b : Bool) (m : Fin 128)
  /-- OBJECT_PERIODIC_QUEUE (R407). -/
  | objectPeriodicQueue (b : Bool) (m : Fin 128)
  /-- REQ (R407). -/
  | objReq (ms : Master) (b : Bool) (m : Fin 128)
  /-- CANCEL (R409). -/
  | objCancel (ms : Master) (b : Bool) (m : Fin 128)
  /-- LOCK (R405). -/
  | objLock (ms : Master) (b : Bool) (m : Fin 128)
  /-- ACK (R405). -/
  | objAck (ms : Master) (b : Bool) (m : Fin 128)
  /-- LEAK_REPEAT (R414). -/
  | leakRepeat
  /-- FAILSAFE_REPEAT (R414). -/
  | failsafeRepeat
  /-- REF_QUEUE (R416). -/
  | refQueue (b : Bool)
  /-- REF (R417). -/
  | ref (b : Bool) (f : CanFrame)
  /-- ROW_TIME_HOLDOVER (R417). -/
  | rowTimeHoldover
  /-- GRANT (R437). -/
  | grant (b : Bool) (g : StewMsg)
  /-- REQUEST (R443). -/
  | request (b : Bool) (g : StewMsg)
  /-- RELEASE (R438). -/
  | release (b : Bool) (g : StewMsg)
  /-- TAKEN (R436). -/
  | taken (b : Bool) (g : StewMsg)
  /-- FAILSAFE (R438). -/
  | failsafe (b : Bool) (source : Fin 64) (forced : Bool)
  /-- HEARTBEAT_LOST (R438). -/
  | heartbeatLost (b : Bool)
  /-- REFEREE_START (R435). -/
  | refereeStart (b : Bool)
  /-- INITIAL_GRANT (R437). -/
  | initialGrant (b : Bool)
  /-- LATENT_FAULT_CHECK (R439). -/
  | latentFaultCheck (b : Bool)
  /-- TAKEBACK_REQUEST (R443). -/
  | takebackRequest (b : Bool)
  /-- TAKEBACK_RELEASE_TIMEOUT (R443). -/
  | takebackReleaseTimeout (b : Bool)
  /-- STATE_PUSH (R441). -/
  | statePush
  /-- STATE (R441). -/
  | state (b : Bool) (segment : Fin 8) (data : List Byte)
  /-- STEWARD_STEP (R446). -/
  | stewardStep
  /-- LIMIT (R447). -/
  | limit (b : Bool) (group : Fin 8) (entries : List Nat)
  /-- STEWARD_CAP_LOST (R447). -/
  | stewardCapLost
  /-- ISLAND_RECORD_PROGRAMMED (R462). -/
  | islandRecordProgrammed
  /-- OPEN_RECORD_CLOSE (R462). -/
  | openRecordClose
  /-- ISLAND_PAGE_ERASE_DONE (R463). -/
  | islandPageEraseDone
  /-- MAIN_SECTOR_ERASE_DONE (R464). -/
  | mainSectorEraseDone
  /-- ISLAND_RECORD_COPY (R464). -/
  | islandRecordCopy
  /-- TOKEN_ADD (R465). -/
  | tokenAdd (code : Nat)
  /-- TIME_LO_READ (R468). -/
  | timeLoRead (m : Master) (row : Bool)
  /-- FW_ACTIVATION_START (R484). -/
  | fwActivationStart (target : Fin 3)
  /-- TRIAL_RUN_TIMEOUT (R487). -/
  | trialRunTimeout (target : Fin 3)
  /-- TRIAL_END (R487). -/
  | trialEnd (target : Fin 3)
  /-- NONCE_EXPIRY (R503). -/
  | nonceExpiry
  /-- MP_START (R283). -/
  | mpStart
  /-- SELFTEST_COMPLETE (R36). -/
  | selftestComplete (cl : Fin 64) (core : Fin 65) (code : Byte)
  /-- MAIN_RECORD_PROGRAMMED (R464). -/
  | mainRecordProgrammed
  /-- RECEIVE_ERROR (R410). -/
  | receiveError (b : Bool) (dominantAfterFlag : Bool)
  /-- TRANSMISSION_START (R409). -/
  | transmissionStart (b : Bool) (sof : Nat) (won : Bool)
  /-- BUS_INTEGRATION_COMPLETE (R396). -/
  | busIntegrationComplete (b : Bool)
  /-- ROW_TIME_SLEW_END (R417). -/
  | rowTimeSlewEnd
  /-- CANDIDATE_ELIGIBLE (R438). -/
  | candidateEligible (b : Bool) (cand : Fin 64)
  /-- DOUBLED_REFRESH (R119). -/
  | doubledRefresh (stack : Fin 6) (temp : Nat)
deriving DecidableEq, Repr

end Sys2Proof
end

