-- ==== Sys2Proof/Config.lean ====
section
/-! DEFINITION. The free values: constants without a body for what the spec leaves open, so that no
proof can see what they are. -/

namespace Sys2Proof.Config

/-- Whether a value between two codes of its register shows as the upper one: the spec states no
rounding for it (notes/assumptions/40). -/
opaque roundUp : Rat → Bool

/-- Whether every sample of the armed leak inputs since the last control tick was dry, from ELAPSED_US: a tick
carries one sample of each (R381, notes/assumptions/169). -/
opaque dryBetween : Nat → Bool

/-- The rate of a slew, which R417 bounds at 1,000 ppm only, from the model's counter
(notes/assumptions/45). -/
opaque slewRate : Nat → Nat

/-- Byte i of an object's data area beyond the length of the frame that replaced it, from the model's
counter (notes/assumptions/46). -/
opaque objTail : Nat → Nat → Byte

/-- How many 11-bit sequences a bus-off recovery has counted, by the channel and ELAPSED_US
(notes/assumptions/130). -/
opaque recoveries : Bool → Nat → Nat

/-- F2 of a schema 1 FORECAST, whose bytes do not hold it, from the model's counter (R413,
notes/assumptions/171). -/
opaque forecastF2 : Nat → Nat

/-- The receive error counter after a good frame in error-passive, which ISO 11898-1 leaves within
119 to 127, from the model's counter (notes/assumptions/47). -/
opaque recAfter : Nat → Nat

/-- The energy in µJ that the power manager expects of a frame at an issue fraction in 1/16: from its
annotated energy, the part of it that its CORE clusters take, and the measured and annotated energies of
the previous ten frames. R273 does not say how the fraction and the error enter (notes/assumptions/57). -/
opaque frameEnergy : Nat → Nat → List (Nat × Nat) → Nat → Nat

/-- The result of a vector function at an operand for which R65's error bound states none: function code of
R83 and operand (notes/assumptions/64). -/
opaque vecOpen : Nat → Word → Word

/-- Where within R65's error bound a vector function's result lies: function code and operand
(notes/assumptions/64). -/
opaque vecUlp : Nat → Word → Nat

/-- Whether the vector unit's MIN and MAX of a number and a NaN give the number, and whether MIN of zeros of
both signs gives the first operand: R64 names no version of IEEE 754 (notes/assumptions/65). -/
opaque minMaxNumber : Bool
opaque minMaxFirst : Bool → Bool

/-- Whether a conversion of −0 keeps the sign (notes/assumptions/66). -/
opaque cvtNegZero : Bool

/-- Where row r of tile step t of an operand of more than one tile step lies behind its address: format
code, steps, t and r (notes/assumptions/68). -/
opaque operandOff : Nat → Nat → Nat → Nat → Nat

/-- Where the scale array of an MX operand or result lies, which no descriptor word names: the descriptor
and which operand (notes/assumptions/69). -/
opaque scaleBase : List Word → Nat → Nat

/-- An F48 result whose exponent leaves F48's range, which data of a long partial can bring about
(notes/assumptions/70). -/
opaque f48Range : Int → Int → BitVec 59

/-- What a scalar register holds when a transfer uses it, and whether it came from a poisoned word, from what
the result of a run may depend on (R101): the active image, I, F, the register, and the SRAM of its core with
its poisoned words. The spec gives no command that loads one (notes/assumptions/71). -/
opaque sregValue : List Word → BitVec 32 → Nat → Nat → List (Nat × Byte) → List Nat → Word
opaque sregPoisoned : List Word → BitVec 32 → Nat → Nat → List (Nat × Byte) → List Nat → Bool

/-- Whether the tray window's inbound buffer is full when a data word comes, from the model's counter
(notes/assumptions/140). -/
opaque inboundFull : Nat → Bool

/-- Tobevik's PCI-SIG vendor identifier, which R187 names without its number (notes/assumptions/138). -/
opaque vendorId : Nat

/-- Whether the host link is in L1 or D3hot, from ELAPSED_US and the model's counter: no command moves the link
(notes/assumptions/141). -/
opaque linkLow : Nat → Nat → Bool

/-- The core of a cluster whose data a transfer to a stack with CORE 0xFF takes (notes/assumptions/72). -/
opaque broadcastCore : Nat

/-- Whether a rack stands at a position of the row (R149, notes/assumptions/39). -/
opaque rackPresent : Nat → Bool

/-- Whether a package relays toward an endpoint: it is in S0 or S1 and the lanes that it needs are active. Relay,
target, whether that is a sled, and ELAPSED_US (R152, notes/assumptions/149). -/
opaque relayServes : Nat → Nat → Bool → Nat → Bool

/-- The time in ps after which a symbol goes again by a fallback path, from the model's counter (R164,
notes/assumptions/150). -/
opaque resendPs : Nat → Nat

/-- How many requests were outstanding at once, how many cycles an engine was refused or stalled, and how many
units of a read were corrected, from the model's counter: they depend on timing and on errors
(notes/assumptions/73). -/
opaque outstanding : Nat → Nat
opaque stallCycles : Nat → Nat
opaque corrected : Nat → Nat

/-- Whether r and s, 24 words, are the ECDSA P-384 signature of a message under a key slot's key: the
manual gives no key (notes/assumptions/87). -/
opaque sigOk : Nat → List Byte → List Word → Bool

/-- Whether a firmware image's GCM tag verifies under IMG_KEY, and the plaintext of its body: the manual
gives no key (notes/assumptions/87). -/
opaque gcmOk : List Word → Bool
opaque plainBody : List Word → List Word

/-- The configuration block of a security image, its owner keys (bit k for slot 4 + k) and its binding table
(sender and receiver of a channel): the manual does not give the block's layout (notes/assumptions/88). -/
opaque configBlock : List Word → List Word
opaque ownerKeys : List Word → BitVec 4
opaque bindEntry : List Word → Nat → BitVec 3 × BitVec 3

/-- The words of the image that bank A of a firmware target holds from manufacture, and the key slot that
signs it (notes/assumptions/96). -/
opaque factoryImage : Nat → List Word
opaque factorySlot : Nat → Nat

/-- Bytes 0 to 3 of the SHA-384 of a slot's public key (notes/assumptions/87). -/
opaque keyDigest : Nat → Word

/-- The alias key's signature over a report's bytes, 96 bytes; a certificate part's length and bytes
(notes/assumptions/87). -/
opaque reportSig : List Byte → List Byte
opaque certLen : Nat
opaque certByte : Nat → Byte

/-- A nonce, from the model's counter (notes/assumptions/89). -/
opaque nonce : Nat → BitVec 64

/-- The run time in ms that CORE_SELFTEST's reply shows, from the model's counter; and the code of a test
that ends within the command (notes/assumptions/90). -/
opaque testMs : Nat → Nat
opaque testCode : Nat → Byte

end Sys2Proof.Config
end

