-- ==== Sys2Proof/Machine/State.lean ====
section
/-! DEFINITION. The block's state as plain data: every register, buffer, counter, mode and pin of the
spec, block by block; the fault and refusal reasons; and the state right after reset. A field's default
value is its value in `State.reset`: the Reset column of the spec where it gives one. -/

namespace Sys2Proof.Machine

/-- A memory: (address, byte) pairs, addresses strictly rising, no byte equal to the zero that an
unlisted address reads as (R114, R122: both memories start zero-filled). -/
abbrev Mem := List Host.Cell

/-- A sparse table: (key, value) pairs, keys strictly rising. -/
abbrev SMap (α : Type) := List (Nat × α)

/-! ## Power states and sequences (R261 to R266) -/

/-- The four power states (R261). -/
inductive PState where
  | s0 | s1 | s2 | s3
deriving DecidableEq, Repr

/-- A power-state transition that runs (R261, R262, R264). -/
structure PwrSeq where
  /-- rising (power-up, wake) or falling -/
  up : Bool := false
  target : PState := .s3
  /-- the PWR_STATE_SET whose reply waits for the target (R291) -/
  req : Option (Port × BitVec 6) := none
  /-- the frame boundary that ends the transition is awaited (S0, S1) -/
  atBoundary : Bool := false
  /-- the sequence goes on to S1 when S0 is reached (R261, S2 → S1) -/
  thenS1 : Bool := false
  /-- a PG timeout, a rail failure or a trip ended or began the sequence (R263 to R266) -/
  failed : Bool := false
  /-- the host's resume owns the sequence (R271) -/
  host : Bool := false
deriving DecidableEq, Repr

/-- A frame that has ended: measured and annotated energy in µJ, and its length in µs (R273). -/
structure PastFrame where
  uj : Nat := 0
  annot : Nat := 0
  us : Nat := 0
deriving DecidableEq, Repr

/-- The PWR block and the power manager (R258 to R290). -/
structure PwrBlk where
  pstate : PState := .s3
  target : PState := .s3
  seq : Option PwrSeq := none
  /-- `PWR_EN_x`, bit per rail (R258, R289) -/
  en : BitVec 9 := 0
  /-- `PG_x`, bit per rail; good under R259 is PG and the comparator -/
  pg : BitVec 9 := 0
  /-- ELAPSED_US at which `PWR_EN_CORE_A` rose, while B, C and D are still to follow it (R262) -/
  coreEnAt : Option Nat := none
  /-- rails whose PG stays high 5 ms after their enable fell: the sequence has gone on past them (R264) -/
  stuck : BitVec 9 := 0
  failedRail : Nat := 0xF
  /-- PDSEQ_RAILFAIL in retention RAM, with the rail (R265, R294) -/
  pdseq : Option Nat := none
  /-- ELAPSED_US of the failures that R263 counts -/
  failures : List Nat := []
  lockout : Bool := false
  /-- retention marker in island flash (R267) -/
  markerClean : Bool := true
  vout : Vector Nat 9 := Vector.replicate 9 0
  iout : Vector Nat 9 := Vector.replicate 9 0
  /-- VOUT_COMMAND of the core rails, in mV (R260) -/
  vset : Rat := 750
  clkMhz : Nat := 0x5DC
  /-- requested core clock not yet in effect (R260) -/
  clkReq : Option Nat := none
  brake : Bool := false
  brakeCnt : Nat := 0
  smbAlert : Bool := false
  wakePin : Bool := false
  /-- the device causes whose interrupt or event waits for the host's resume (R271) -/
  wakeDue : Word := 0
  event : Word := 0
  wakeCause : Word := 0
  hostW : Nat := 0x640
  stewardW : Nat := 0xFFFF
  /-- the 800 W thermal part of R272 stands -/
  thermal800 : Bool := false
  /-- shed limit of R99; 1,600 when removed -/
  shedW : Nat := 1600
  /-- start-up cap of R268 stands -/
  startup : Bool := true
  inForceW : Nat := 0x3C0
  warm : Bool := false
  normal : Bool := false
  /-- ELAPSED_US of a LAST_START issued with WARM 0 (R279) -/
  coldStart : Option Nat := none
  keepWarm : Bool := true
  tThrottle : Nat := 0x64
  thrCluster : Nat := 0
  dReq : Nat := 0
  dApplied : Nat := 0
  escalated : Bool := false
  thrTemp : Nat := 0
  /-- issue fraction of the frame, in 1/16 (R273) -/
  issue : Nat := 16
  /-- cores issue nothing after a trip (R28) -/
  issueStopped : Bool := false
  pkgW : Nat := 0
  /-- past frames, newest first: the last ten correct the next annotation, those of 10 ms and 100 ms bound it
  (R273, R279) -/
  history : List PastFrame := []
  /-- the filler of the frame, mW (R277) -/
  fillerMw : Nat := 0
deriving DecidableEq, Repr

/-! ## The Last sequencer (R74 to R109) -/

/-- LAST_STATE.STATE (R104). -/
inductive LastSt where
  | empty | loaded | running | paused | faulted
deriving DecidableEq, Repr

/-- The Last sequencer. -/
structure LastBlk where
  st : LastSt := .empty
  /-- the active slot's image (R89) -/
  active : List Word := []
  /-- the standby slot's words, as received or committed (R89) -/
  standby : List Word := []
  standbyValid : Bool := false
  standbyIncomplete : Bool := false
  leader : Bool := false
  /-- an armed switch: `some true` at the next boundary, `some false` at the end of the pass (R94) -/
  armed : Option Bool := none
  /-- the switch frame runs (R94 step 2) -/
  inSwitch : Bool := false
  /-- the PERIOD code of the Last that a switch replaces, in force during the switch frame (R94) -/
  oldPeriod : Nat := 0
  /-- the work of the switch frame is done (R94 step 2) -/
  switched : Bool := false
  startPending : Bool := false
  pausePending : Bool := false
  resumePending : Bool := false
  /-- the new Last of a switch waits paused before frame 0 (R100) -/
  pausedBeforeFrame0 : Bool := false
  f : Nat := 0
  pass : BitVec 32 := 0
  jobId : Nat := 0
  scope : Bool := false
  leaderId : Nat := 0
  faultTimeout : Nat := 0xA
  members : Nat := 1
  /-- a LAST_JOB_SET was given since the reset: the package has a role in a job (R92, R109) -/
  jobGiven : Bool := false
  /-- a LAST_JOB_SET was given since the fault (R99) -/
  jobSet : Bool := false
  event : Word := 0
  shedCnt : Nat := 0
  stretchCnt : Nat := 0
  maxStretch : Nat := 0
  /-- every chain of the frame has completed (R97) -/
  ready : Bool := false
  /-- where the chains of the frame stand (R81): for slot i and logical core c of it, at 64 i + c, the offset of
  the next descriptor, 0x10000 after the last; unlisted while the first has not run -/
  chains : SMap Nat := []
  /-- COLLECTIVE descriptors of the frame that have begun (R171) -/
  collIndex : Nat := 0
  /-- the last marker emitted as leader (R96) -/
  markerOut : Option Marker := none
  /-- the marker received for the coming boundary as a member (R96) -/
  markerIn : Option Marker := none
  /-- how long the member delays that marker before its boundary, in ps (R96, R174) -/
  bndDelay : Nat := 0
  /-- a shed notice was sent in this frame (R99) -/
  shedSent : Bool := false
deriving DecidableEq, Repr

/-! ## Cores (R32 to R73) and the repair record (R475) -/

/-- An accumulator (R50, R51, R55): the exact sum or the F48 value, and its flags. -/
structure Acc where
  sum : BitVec 120 := 0
  f48 : BitVec 59 := 0
  nan : Bool := false
  pinf : Bool := false
  ninf : Bool := false
  ovfPos : Bool := false
  ovfNeg : Bool := false
  loss : Bool := false
deriving DecidableEq, Repr

/-- What a physical core holds beside its SRAM and accumulators (R69 to R71). -/
structure CoreRegs where
  /-- accumulators that a parity error set NAN between two operations, until their tile is written (R39) -/
  parity : List Nat := []
  testCode : Nat := 0xFF
  testRunning : Bool := false
  /-- the running test was deferred and reports in CORE_SELFTEST_RESULT (R36) -/
  testDeferred : Bool := false
  faultPending : Bool := false
  arith : Word := 0
  lossCnt : Nat := 0
deriving DecidableEq, Repr

/-- A waiting change of a cluster (R477) or a deferred self-test (R36). -/
structure CoreChange where
  logical : Nat
  /-- 0 SWAP, 1 SWAP_RETIRE, 2 RETIRE (R477) -/
  action : Nat
  /-- pattern set of the self-test that the released core runs (R36, R477) -/
  pattern : Nat
  /-- it comes from a deferred CORE_SELFTEST (R36) -/
  test : Bool := false
deriving DecidableEq, Repr

/-- A cluster's part of the repair record (R475) and its waiting work. -/
structure ClusterRec where
  /-- logical cores not served by the physical core of the same number: (logical, physical);
  a physical 0x7F is 'unserved' (R477) -/
  map : SMap Nat := []
  /-- the free spare, if any (R33) -/
  spare : Option Nat := some 64
  /-- retired physical cores, the most recent first -/
  retired : List Nat := []
  /-- waiting change (R477, R36) -/
  change : Option CoreChange := none
  /-- physical cores whose self-test waits for the next unload (R36), with the pattern set -/
  deferred : SMap Nat := []
deriving DecidableEq, Repr

/-- The compute dies. Keys: physical core c of cluster n is 65 n + c. -/
structure CoreBlk where
  /-- physical cores that the fuses record as retired at manufacture, by key (R476) -/
  fuseRetired : List Nat := []
  /-- neither copy of the repair record checked at this power-up (R476) -/
  recordLost : Bool := false
  regs : SMap CoreRegs := []
  clusters : Vector ClusterRec 64 := Vector.replicate 64 {}
  /-- accumulator i of core key k at 1,024 k + i -/
  accs : SMap Acc := []
  /-- SRAM byte a of core key k at 0x60000 k + a (R111) -/
  sram : Mem := []
  /-- poisoned 64-bit words, by index (R113) -/
  sramPoison : List Nat := []
  /-- scalar register r of core key k at 32 k + r (R32) -/
  sregs : SMap Word := []
  /-- scalar registers loaded from a poisoned word (R113) -/
  sregPoison : List Nat := []
deriving DecidableEq, Repr

/-! ## HBM, pool windows and spill (R110 to R141) -/

/-- MEM_STACK_STAT.STATE (R132). -/
inductive StackSt where
  | off | training | inService | selfRefresh | retired | failed
deriving DecidableEq, Repr

/-- A stack and its registers (R132 to R135). -/
structure Stack where
  st : StackSt := .off
  temp : Nat := 0
  system : Bool := false
  refresh2x : Bool := false
  zeroed : Bool := false
  ue : Nat := 0
  ce : Nat := 0
  inflightPeak : Nat := 0
  bpCnt : Nat := 0
  /-- recorded as retired in the repair record (R475) -/
  recRetired : Bool := false
  /-- a retirement waits for the next switch or unload (R479) -/
  retireWaiting : Bool := false
deriving DecidableEq, Repr

/-- An exported window (R139). -/
structure PoolWin where
  valid : Bool := false
  stack : Nat := 0
  base : Nat := 0
  size : Nat := 0
deriving DecidableEq, Repr

/-- The MEM block. -/
structure MemBlk where
  stk : Vector Stack 6 := Vector.replicate 6 {}
  /-- the stack that the repair record names for the system region (R475, R480) -/
  systemStack : Nat := 0
  scrubEn : Bool := true
  passHours : Nat := 0x18
  event : Word := 0
  /-- SPILL_STAT.TAGS_PEAK (R138); TAGS_NOW counts the spill engine's transactions in `lace.txns` -/
  tagsPeak : Nat := 0
  wins : Vector PoolWin 16 := Vector.replicate 16 {}
  sramUe : Vector Nat 64 := Vector.replicate 64 0
  sramCe : Vector Nat 64 := Vector.replicate 64 0
  /-- stack byte x of stack h at h × 0x10_0000_0000 + x (R188's numbering) -/
  hbm : Mem := []
  /-- poisoned 32-byte units, by index address / 32 (R120) -/
  hbmPoison : List Nat := []
  /-- units whose reread is under way: (unit, rereads done) (R120) -/
  rereads : List (Nat × Nat) := []
deriving DecidableEq, Repr

/-! ## Lace (R143 to R184) -/

/-- LACE_LANE_STAT.STATE (R183). -/
inductive LaneSt where
  | off | waitLight | training | active | down | retired | failed | unused
deriving DecidableEq, Repr

/-- A lane (R183) with its stored training record (R154). -/
structure Lane where
  st : LaneSt := .off
  ver : Nat := 0
  peerSled : Bool := false
  peer : Nat := 0
  fail : Nat := 0
  /-- measured one-way delay in units of 0.5 ns (R153) -/
  delay : Nat := 0
  /-- ACCESS_NS of a sled (R149, R153) -/
  accessNs : Nat := 0
  /-- the training that waits for light is to be in full (R154, R184) -/
  wantFull : Bool := false
  /-- the flit that is being replayed, by its link sequence number, and its replays so far (R158) -/
  replay : Option (Nat × Nat) := none
  /-- stored ring set-point, delay and version (R154, R157), island flash -/
  record : Option (Nat × Nat × Nat) := none
  /-- the training under way is fast (R154) -/
  fast : Bool := false
  /-- the peer sent RETIRE for it (R481) -/
  peerRetired : Bool := false
deriving DecidableEq, Repr

/-- Who holds a Lace tag (R127, R160). -/
inductive TagHolder where
  | spill | descriptor | collective
deriving DecidableEq, Repr

/-- Where the data of a transaction's reply go, or came from. -/
inductive LacePlace where
  | hbm (stack addr : Nat)
  | sram (cluster core addr : Nat)
deriving DecidableEq, Repr

/-- A transaction (R160, R161): one of `txns` is outstanding; one of `waiting` has no tag yet. -/
structure Txn where
  tag : Nat := 0
  gen : Nat := 0
  holder : TagHolder
  target : Nat
  sled : Bool
  write : Bool
  window : Nat := 0
  offset : Nat := 0
  /-- where the target has a LACE descriptor's bytes (R165) -/
  remote : Option LacePlace := none
  len : Nat
  /-- where a read's data go -/
  place : LacePlace
  /-- the descriptor, by its offset in the image (R166) -/
  desc : Nat := 0
  /-- number of the transaction within its descriptor (R152) -/
  number : Nat := 0
  /-- index of the collective (R171) -/
  coll : Nat := 0
  /-- the lane that carries it, and whether it goes by a fallback or spread path (R152, R159) -/
  lane : Nat := 0
  spread : Bool := false
deriving DecidableEq, Repr

/-- A job that the package forwards for (R173): its leader, the members that joined through this package, the
lanes that lead to them, and the lanes whose ready bits, and STANDBY_VALID bits, have come for the next
boundary. -/
structure JobFwd where
  job : Nat
  leader : Nat
  members : List Nat
  lanes : List Nat
  ready : List Nat := []
  standby : List Nat := []
deriving DecidableEq, Repr

/-- A collective of the frame under way at this member (R167 to R171). -/
structure Coll where
  index : Nat
  op : Nat
  etype : Nat
  red : Nat
  size : Nat
  bytes : Nat
  base : Nat
  stride : Nat
  rank : Nat
  dst : LacePlace
  /-- what the members sent to this one, by rank: bytes and poisoned 32-byte units; `none` for what never
  arrived (R171) -/
  parts : List (Nat × Option (List Byte × List Nat))
  /-- of an ALL_REDUCE, the combined slices by rank (R167) -/
  gathered : List (Nat × Option (List Byte × List Nat)) := []
deriving DecidableEq, Repr

/-- The LACE block. -/
structure LaceBlk where
  idValid : Bool := false
  rack : Nat := 0
  slot : Nat := 0
  maxVer : Nat := 3
  timeoutUs : Nat := 0x32
  event : Word := 0
  /-- LACE_TAGS.PEAK (R181); NOW counts `txns` -/
  tagsPeak : Nat := 0
  tagStall : Nat := 0
  lateDrop : Nat := 0
  replayCnt : Nat := 0
  lanes : Vector Lane 128 := Vector.replicate 128 {}
  light0 : Bool := false
  light1 : Bool := false
  txns : List Txn := []
  /-- transactions of started descriptors that wait for a tag, in issue order (R127, R160) -/
  waiting : List Txn := []
  /-- generation of a tag, 0 where unlisted (R161) -/
  gens : SMap Nat := []
  fwds : List JobFwd := []
  colls : List Coll := []
  /-- contributions to collectives of the frame that have not begun here (R171) -/
  early : List Contribution := []
  /-- retired-lane mask of the repair record (R475) -/
  retired : BitVec 128 := 0
  /-- the replies to the last incoming request and those that waited for it: source, tag, generation and content
  (R162, R164) -/
  replyOut : List (Nat × Nat × Nat × ReplyBody) := []
  /-- the generation of the last request taken of a source's tag, at 8,192 source + tag (R159) -/
  taken : SMap Nat := []
  /-- requests that wait for an earlier one of their descriptor; and the number of a descriptor's next
  transaction to commit, at 65,536 source + descriptor (R166) -/
  held : List LaceReq := []
  nextNo : SMap Nat := []
  /-- marker symbols, ready bits (job and STANDBY_VALID) and JOINs (job, leader, member) that went out since the
  last boundary, each with its lane (R173, R174) -/
  symbolsOut : List (Marker × Nat) := []
  readyOut : List (Nat × Bool × Nat) := []
  joinOut : List (Nat × Nat × Nat × Nat) := []
  /-- what was relayed last: target, whether a sled, and the lane (R150) -/
  relayOut : Option (Nat × Bool × Nat) := none
  /-- lanes on which PEER_RESET went out at the last reset (R163) -/
  peerResetOut : BitVec 128 := 0
deriving DecidableEq, Repr

/-! ## Ports, windows and packets (R185 to R229) -/

/-- A reply in its slot (R205). -/
structure Reply where
  ver : Nat
  opcode : Nat
  status : Nat
  words : List Word
deriving DecidableEq, Repr

/-- A command window (R210 to R216). -/
structure Window where
  /-- the words of the packet being written, header first -/
  part : List Word := []
  active : Bool := false
  outbound : Bool := false
  target : Nat := 0
  /-- which firmware a transfer of target 2 is for (R482) -/
  fw : Nat := 0
  tag : BitVec 6 := 0
  left : Nat := 0
  /-- inbound words received so far -/
  inWords : List Word := []
  /-- outbound words still to be read -/
  outWords : List Word := []
  /-- a LOG_READ's records by SEQ, and whether they are island records (R466) -/
  recs : List Nat := []
  recIsl : Bool := false
  /-- replies present, by tag: the DONE bits and their slots -/
  replies : SMap Reply := []
  rspSel : BitVec 6 := 0
  rejected : Bool := false
  dataIdle : Bool := false
  xferAborted : Bool := false
  rejCount : Nat := 0
  rejTag : BitVec 6 := 0
deriving DecidableEq, Repr

/-- A posted command without a reply (R218, R219). -/
structure Ctx where
  port : Port
  tag : BitVec 6
  ver : Nat
  op : Nat
  words : List Word
  started : Bool := false
  /-- it holds an entry of the context RAM (R219); false for the Cobbler-served packets that the tray
  window hardware queues while the MP is off (R221) -/
  inRam : Bool := true
  /-- its reply is discarded: the port was reset while it ran (R225) -/
  silent : Bool := false
  /-- it waits for an answer of Cobbler or the security processor (R220) -/
  peer : Bool := false
deriving DecidableEq, Repr

/-- How the last bus cycle ended. -/
inductive BusEnd where
  | ok | err | completerAbort | poisoned | unknownLink
deriving DecidableEq, Repr

/-- The tray bus (R190 to R193, R20, R249). -/
structure TrayBus where
  /-- the one-entry write buffer holds a write (R192) -/
  wbuf : Bool := false
  /-- a write waits for the buffer: (address, data) -/
  waiting : Option (Nat × BitVec 16) := none
  /-- a read outside the fast block waits for the island (R191) -/
  readWait : Option Nat := none
  /-- a data write waits for room in the window's inbound buffer: (address, data) (R192) -/
  roomWait : Option (Nat × BitVec 16) := none
  /-- a write that commits DOORBELL waits for the island (R249): channel and the bits written -/
  doorbellWait : Option (Nat × Word) := none
  /-- what a read of a register's low half captured, by the register's address (R20) -/
  low : SMap Word := []
  /-- held low half of a write (R20) -/
  held : Option (Nat × BitVec 16) := none
deriving DecidableEq, Repr

/-- An entry of an MSI-X table with its pending bit (R187). PRESUMED: the entry's fields and its mask after a
reset are those of the PCI Express standard, which the spec names (notes/assumptions/138). -/
structure Msix where
  addr : BitVec 64 := 0
  data : Word := 0
  masked : Bool := true
  pending : Bool := false
deriving DecidableEq, Repr

/-- The ports. -/
structure PortBlk where
  host : Window := {}
  tray : Window := {}
  cobbler : Window := {}
  security : Window := {}
  debug : Window := {}
  ctx : List Ctx := []
  bus : TrayBus := {}
  /-- data and end of the last access -/
  rdata : List Word := []
  ended : BusEnd := .ok
  /-- how often control-function vectors 0 to 2 and data-function vector 0 were raised (R187) -/
  vec0 : Nat := 0
  vec1 : Nat := 0
  vec2 : Nat := 0
  dvec0 : Nat := 0
  /-- the condition of R217 held for the host window at its last evaluation -/
  hostIrq : Bool := false
  /-- `PERST#` asserted; the board's level at reset -/
  perst : Bool := false
  /-- `TB_RST#` low (R193); the board's level at reset -/
  tbRst : Bool := false
  /-- MSI-X tables of the control and the data function (R187) -/
  msix0 : Vector Msix 4 := Vector.replicate 4 {}
  msix1 : Vector Msix 2 := Vector.replicate 2 {}
deriving DecidableEq, Repr

/-! ## Mailboxes, locks, bridge (R230 to R257) -/

/-- A mailbox channel (R232 to R237). -/
structure Mbx where
  data : Vector Word 16 := Vector.replicate 16 0
  sender : Nat := 0
  receiver : Nat := 0
  ackCode : Byte := 0
  senderEpoch : BitVec 4 := 0
  msgEpoch : BitVec 4 := 0
  ackValid : Bool := false
  refused : Bool := false
  doorbell : Bool := false
deriving DecidableEq, Repr

/-- A hardware lock (R244, R245). -/
structure LockSt where
  owner : Nat := 0
  broken : Bool := false
  brokenOwner : Nat := 0
deriving DecidableEq, Repr

/-- The binding table that security firmware of stepping B0 writes, (sender, receiver) by channel (R233). -/
def bindingB0 : List (Nat × Nat) :=
  [(1, 4), (4, 1), (3, 4), (4, 3), (1, 5), (5, 1), (3, 5), (5, 3),
   (4, 5), (5, 4), (4, 6), (6, 4), (2, 4), (4, 2), (1, 3), (3, 1)]

/-- Mailboxes, locks and the island bridge. The binding table is loaded at island power-up (R242, R473). -/
structure MbxBlk where
  ch : Vector Mbx 16 := Vector.ofFn fun c =>
    { sender := (bindingB0.getD c.val (0, 0)).1, receiver := (bindingB0.getD c.val (0, 0)).2 }
  violCount : Nat := 0
  violMaster : Nat := 0
  violChannel : Nat := 0
  locks : Vector LockSt 32 := Vector.replicate 32 {}
  /-- the zone-energy push that was given RETRY on the bridge and is not yet reissued, and those that wait
  behind it, by their frames (R254) -/
  bridgeRetry : List Nat := []
deriving DecidableEq, Repr

/-! ## The island: tick, sensors, forecaster, Toecap (R292 to R320) -/

/-- A sensor channel (R297 to R304, R319). -/
structure Sensor where
  fault : Bool := false
  cal : Bool := false
  primed : Bool := false
  /-- the filter's y, in the channel's VALUE unit -/
  y : Rat := 0
  /-- it is faulted because its die is unpowered (R300) -/
  dieOff : Bool := false
  offset : BitVec 16 := 0
  gain : BitVec 16 := 0x8000
  filtK : Nat := 0
  param : Nat := 0
  /-- a deferred calibration waits (R304) -/
  deferred : Bool := false
  /-- last completed pulse period in island cycles (FP0, FP1; R298) -/
  period : Option Nat := none
deriving DecidableEq, Repr

/-- The defaults of R303 for channel c. -/
def Sensor.default (c : Nat) : Sensor :=
  if c < 64 then { filtK := 1 }
  else if c < 72 then { filtK := 3 }
  else if c < 80 then { filtK := 5, param := 3950 }
  else { filtK := 3, param := 450 }

/-- An entry of a stored calibration table (R302). -/
structure CalEntry where
  offset : BitVec 16
  gain : BitVec 16
  filtK : Nat
  param : Nat
deriving DecidableEq, Repr

/-- The entry that a channel has in force. -/
def Sensor.entry (x : Sensor) : CalEntry := { offset := x.offset, gain := x.gain, filtK := x.filtK, param := x.param }

/-- The table of defaults (R303). -/
def calDefaults : List CalEntry := (List.range 82).map fun c => (Sensor.default c).entry

/-- The ISL block and Cobbler. -/
structure IslBlk where
  /-- V_ISL is good -/
  on : Bool := true
  fwRun : Bool := false
  /-- the island processor is held in reset: from the time V_ISL is good until its release (R295) -/
  procReset : Bool := true
  /-- ELAPSED_US at which the firmware last restarted (R311) -/
  restartAt : Nat := 0
  tick : BitVec 32 := 0
  /-- sources of the last 16 ticks, newest in bit 0; 1 counter (R296) -/
  tickHist : BitVec 16 := 0xFFFF
  /-- island cycles after the last tick at which the counter fires (R296) -/
  fireAt : Nat := 5000
  /-- a first control tick has come since island power-up (R295) -/
  firstTick : Bool := false
  flowValid : Bool := false
  noLast : Bool := true
  stale : Bool := false
  plausWindow : Bool := true
  /-- Toecap has expired and the island processor is not yet released (R311) -/
  toecapHeld : Bool := false
  /-- Toecap's forced state (R311); retention RAM -/
  forced : Bool := false
  coolDegraded : Bool := false
  toecapExpired : Bool := false
  timeoutMs : Nat := 0xC8
  updateArm : Bool := false
  /-- the timeout that returns when the trial ends (R485) -/
  savedTimeout : Nat := 0xC8
  /-- expiries in the persistent words: (POWER_ON_COUNT, ELAPSED_US, bank) (R311, R487) -/
  expiries : List (Nat × Nat × Nat) := []
  lead : Nat := 0x14
  measW : Nat := 0
  nextW : Nat := 0
  sens : Vector Sensor 82 := Vector.ofFn fun c => Sensor.default c.val
  /-- words of a loaded calibration table not yet committed (R302) -/
  calLoaded : Option (List Word) := none
  /-- the calibration table's copies A and B in island flash, `none` where the CRC fails, and which is
  current (R293) -/
  calA : Option (List CalEntry) := some calDefaults
  calB : Option (List CalEntry) := some calDefaults
  calCurB : Bool := false
  /-- a committed table that takes effect at the next control tick (R303) -/
  calCommit : Option (List CalEntry) := none
  /-- the frames delivered ahead, nearest first: length in µs and 16 zone powers in 0.01 W (R305, R306) -/
  ahead : List (Nat × List Nat) := []
  /-- control ticks since the last frame boundary -/
  tickInFrame : Nat := 0
  /-- the lowest active limit last known (R307) -/
  lastLimit : Nat := 0x3C0
  /-- measured package power of the last 200 control ticks, newest first, in W (R308) -/
  measHist : List Nat := []
  /-- measured zone power, 0.01 W (R529) -/
  zoneMeas : List Nat := List.replicate 16 0
  /-- the last rack forecast message (R308) and its SEQ -/
  rackMsg : List Byte := List.replicate 16 0
  rackSeq : Byte := 0
  /-- island boot failed in both banks (R499) -/
  bootFail : Bool := false
deriving DecidableEq, Repr

/-! ## Control engine (R321 to R344) -/

/-- A slot's mode (R323). -/
inductive LoopMd where
  | openHold | openManual | closed | test
deriving DecidableEq, Repr

/-- A loop slot: configuration, coefficients and live state. -/
structure Slot where
  inKind : Nat := 0
  inIndex : Nat := 0
  outKind : Nat := 0
  outIndex : Nat := 0
  eshift : Nat := 0
  fshift : Nat := 0
  sign : Bool := false
  order : Bool := false
  repEn : Bool := false
  ffEn : Bool := false
  satAction : Bool := false
  satTime : Nat := 500
  outMax : Nat := 0x8000
  outMin : Nat := 0
  safeOut : Nat := 0x8000
  repLen : Nat := 16
  repFrames : Nat := 0
  forget : Nat := 0
  repLead : Nat := 0
  vmax : Nat := 0
  amax : Nat := 0
  jmax : Nat := 0
  mBand : Nat := 0xFFFF
  mTau : Nat := 12
  mY0 : Int := 0
  mGu : Int := 0
  mGp : Int := 0
  /-- Q4.27 coefficients -/
  b0 : Int := 0
  b1 : Int := 0
  b2 : Int := 0
  b3 : Int := 0
  a1 : Int := 0
  a2 : Int := 0
  a3 : Int := 0
  ki : Int := 0
  kff : Int := 0
  kr : Int := 0
  target : Int := 0
  manual : Nat := 0x8000
  mode : LoopMd := .openHold
  /-- a close is made at the next tick (R324) -/
  closing : Bool := false
  /-- a mode change to be taken at the next tick (R323) -/
  pendMode : Option LoopMd := none
  /-- profile generator, in 2^-48 of the input unit (R329) -/
  r : Int := 0
  v : Int := 0
  a : Int := 0
  /-- past errors (R326) -/
  e1 : Int := 0
  e2 : Int := 0
  e3 : Int := 0
  /-- past outputs with 27 fraction bits -/
  c1 : Int := 0
  c2 : Int := 0
  c3 : Int := 0
  /-- integrator with 27 fraction bits (R328) -/
  i : Int := 0
  /-- clamped output in signal units (R325) -/
  u : Int := 0x1000000
  /-- output applied, Q1.15 (R343) -/
  out : Nat := 0x8000
  /-- output computed at the tick, applied 25 µs later (R321) -/
  next : Nat := 0x8000
  fault : Bool := false
  steward : Bool := false
  suspended : Bool := false
  /-- plausibility mode (R335): SUP -/
  sup : Bool := true
  /-- a 30 s plausibility window of R335 beside ISL_STAT.PLAUS_WINDOW stands -/
  plausHold : Bool := false
  /-- the model is primed with y at the next tick (R336) -/
  prime : Bool := true
  /-- the next close follows a fault or a suspension (R335) -/
  afterFault : Bool := false
  /-- model ŷ with 27 fraction bits (R336) -/
  yhat : Int := 0
  outOfBand : Nat := 0
  atLimit : Nat := 0
  satRaised : Bool := false
  /-- the saved integrator that the close after a takeover is held against (R442) -/
  savedI : Option Int := none
  table : List Int := []
  /-- periods completed since the table was cleared (R330), holds at 50 -/
  periods : Nat := 0
  /-- the Last's period under way at the last tick, counted from its start (R330) -/
  lastF : Nat := 0
  /-- the output that the slot drives since its last tick (R327) -/
  actKind : Nat := 0
  actIndex : Nat := 0
  /-- a tick has computed u since island power-up (R342) -/
  ran : Bool := false
deriving DecidableEq, Repr

/-- A test run (R333, R334). -/
structure TestRun where
  slot : Nat
  kind : Nat
  order : Nat
  dec : Nat
  hold : Nat
  amp : Nat
  base : Nat
  f0 : Nat
  f1 : Nat
  limit : Int
  length : Nat
  n : Nat := 0
  prbs : Nat := 0
deriving DecidableEq, Repr

/-- The slot that R322 and R332 give number s at island power-up. -/
def Slot.default (s : Nat) : Slot :=
  if s < 16 then
    { inKind := 2, inIndex := s, outKind := 1, outIndex := s, actKind := 1, actIndex := s, mode := .closed, closing := true,
      target := 5120, r := 5120 * 2 ^ 48, eshift := 14, fshift := 10,
      b0 := 0x3FA46995, b1 := 0xC06FF0BC - 2 ^ 32, b2 := 0, a1 := 0xF81970E5 - 2 ^ 32, a2 := 0,
      ki := 0x29F1, ffEn := true, kff := 0x068DB8BB, vmax := 419, amax := 2749, jmax := 72058,
      mY0 := 640, mGu := 0, mGp := 0x010624DD, mTau := 12, mBand := 960 }
  else if s < 20 then { outKind := 2, outIndex := s - 16, actKind := 2, actIndex := s - 16, mode := .openManual }
  else if s < 24 then { outKind := 3, outIndex := s - 20, actKind := 3, actIndex := s - 20, mode := .openManual }
  else {}

/-- The CTL block. -/
structure CtlBlk where
  slots : Vector Slot 32 := Vector.ofFn fun s => Slot.default s.val
  event : Word := 0
  sat : Word := 0
  implaus : Word := 0
  testSlot : Nat := 0
  test : Option TestRun := none
  /-- capture buffer, oldest sample first (R334) -/
  capture : List (Int × Int) := []
deriving DecidableEq, Repr

/-! ## Valves, PWM, tachometers, pins (R345 to R374) -/

/-- VLV_STAT.PHASE (R369). -/
inductive VPhase where
  | closed | waiting | boost | peak | hold | supplyWait
deriving DecidableEq, Repr

/-- A valve channel. An end is the number of control ticks still to come; `none` has no end, as a forced
command has none (R347, R355). -/
structure Valve where
  phase : VPhase := .closed
  /-- end of the running command -/
  endAt : Option Nat := some 0
  /-- pending command: its end (R350) -/
  pend : Option (Option Nat) := none
  forced : Bool := false
  fault : Nat := 0
  move : Nat := 0xFFFF
  stuckCnt : Nat := 0
  /-- the period in force, ms (R347) -/
  period : Nat := 100
  /-- a dip was seen in this profile (R351) -/
  dip : Bool := false
deriving DecidableEq, Repr

/-- XV_CTL_n (R370). -/
structure Xv where
  iPeak : Nat := 0x78
  iHold : Nat := 0x1E
  tPeak : Nat := 0x14
  no : Bool := false
  peakHold : Bool := false
deriving DecidableEq, Repr

/-- PWM_n (R371). -/
structure Pwm where
  active : Nat := 0x3FF
  minDuty : Nat := 0xCD
  stallEn : Bool := true
  stopEn : Bool := false
  duty : Nat := 0x3FF
deriving DecidableEq, Repr

/-- TACH_n (R372) and its measurement. -/
structure Tach where
  rpm : Nat := 0
  /-- the period before the last edge, in island cycles (R359) -/
  last : Option Nat := none
  /-- the present stall was recorded (R360) -/
  stalled : Bool := false
deriving DecidableEq, Repr

/-- The VLV and PMP block. -/
structure VlvBlk where
  periodMs : Nat := 0x64
  minOpenMs : Nat := 0x05
  /-- PERIOD_MS as the last control tick found it (R364) -/
  tickPeriod : Nat := 0x64
  iPeak : Nat := 0x78
  iHold : Nat := 0x1E
  tBoost : Nat := 0x0A
  tPeak : Nat := 0x14
  event : Word := 0
  ch : Vector Valve 20 := Vector.replicate 20 {}
  xv : Vector Xv 4 := Vector.replicate 4 {}
  pwm : Vector Pwm 4 := Vector.replicate 4 {}
  tach : Vector Tach 4 := Vector.replicate 4 {}
  stall : BitVec 4 := 0
  pinFunc : Vector (BitVec 2) 12 := Vector.replicate 12 0
  pinOut : BitVec 12 := 0
  pinIn : BitVec 12 := 0
  supplyLow : Bool := false
  /-- causes of the forced fully-open command (R355) -/
  forcedPower : Bool := true
  forcedToecap : Bool := false
  forcedRail : Bool := false
  /-- ELAPSED_US at which the package reached S3 after the rail failure (R355) -/
  railS3 : Option Nat := none
deriving DecidableEq, Repr

/-! ## Welt (R375 to R395) -/

/-- A valve test under way (R384). -/
structure VTest where
  xvIn : Nat
  xvOut : Nat
  duration : Nat
  limit : Nat
  /-- the channels' open state before the test: (phase, end) -/
  priorIn : Valve
  priorOut : Valve
deriving DecidableEq, Repr

/-- The WELT block. -/
structure WeltBlk where
  leakTrip : Bool := false
  thermTrip : Bool := false
  tripSrc : Nat := 0
  thermCh : Nat := 0
  senseFault : BitVec 6 := 0
  locate : Nat := 0
  flowAction : Bool := false
  arm : BitVec 6 := 0x3F
  event : Word := 0
  winS : Nat := 0x0A
  imbMl : Nat := 0x32
  result : Nat := 0
  pStart : BitVec 12 := 0
  pEnd : BitVec 12 := 0
  thresh : Vector Nat 6 := Vector.replicate 6 0x100
  level : Vector Nat 7 := Vector.replicate 7 0
  /-- `TRAY_KILL#` and `THERMTRIP#` latches on V_AUX33 (R517) -/
  killLatch : Bool := false
  thermLatch : Bool := false
  /-- ELAPSED_US of the last wet sample of an armed input, before it of the first sample; none before that (R381) -/
  dryFrom : Option Nat := none
  /-- ELAPSED_US from which the 10 s of R386 count -/
  tripAt : Nat := 0
  /-- volumes of the window's seconds, newest first: (supply, return) mL (R383) -/
  flow : List (Nat × Nat) := []
  /-- seconds for which the evaluation stays suspended after a valve test -/
  suspendS : Nat := 0
  episode : Bool := false
  test : Option VTest := none
deriving DecidableEq, Repr

/-! ## Row bus (R396 to R433) -/

/-- ROW_STAT.STATE (R425). -/
inductive CanSt where
  | off | active | passive | busOff
deriving DecidableEq, Repr

/-- OBJ_STAT.TX (R431). -/
inductive TxSt where
  | idle | pending | onBus | sent | expired | abandoned | cancelled
deriving DecidableEq, Repr

/-- A message object (R404 to R409, R429 to R432). -/
structure Obj where
  valid : Bool := false
  send : Bool := false
  dlc : Nat := 0
  seqChk : Bool := false
  seqPos : Nat := 0
  ident : Nat := 0
  period : Nat := 0
  phase : Nat := 0
  window : Nat := 0
  tx : TxSt := .idle
  new : Bool := false
  lost : Bool := false
  owned : Bool := false
  stale : Bool := false
  lastDlc : Nat := 0
  attempts : Nat := 0
  seq : Nat := 0
  ts : Nat := 0
  data : List Byte := List.replicate 64 0
  /-- the data latched at queueing (R407) -/
  latched : List Byte := []
  /-- the data of the frame that waits in the shadow (R405) -/
  shadow : Option (List Byte) := none
  /-- the object's own counter of queueings (R407) -/
  seqCnt : Nat := 0
  /-- data latched by a queueing during the transmission of an earlier instance (R407) -/
  next : Option (List Byte) := none
  cancelMark : Bool := false
  /-- WINDOW ended during a transmission (R408) -/
  expireMark : Bool := false
  /-- a frame was accepted since the object was enabled (R406) -/
  seen : Bool := false
  /-- ELAPSED_US of the last ROW_ABANDONED record (R408) -/
  abandonedAt : Option Nat := none
deriving DecidableEq, Repr

/-- The objects that hardware configures (R404, R412) on channel A (`false`) or B. -/
def Obj.default (b : Bool) (m : Nat) : Obj :=
  if m = 0 then { valid := true, send := true, dlc := 2, ident := 0x000, window := 1000 }
  else if m = 1 then { valid := true, send := true, dlc := 2, ident := 0x040, window := 1000 }
  else if m = 2 then { valid := true, send := false, dlc := 8, ident := 0x080 }
  else if m = 3 then
    { valid := true, send := !b, dlc := 10, seqChk := !b, seqPos := 1, ident := 0x180 }
  else {}

/-- A channel. -/
structure RowCh where
  en : Bool := true
  xcvrOn : Bool := false
  locked : Bool := false
  sendVer : Nat := 2
  brpN : Nat := 4
  tseg1N : Nat := 0x27
  tseg2N : Nat := 0x0A
  sjwN : Nat := 0x0A
  brpD : Nat := 1
  tdco : Nat := 0x1E
  tseg1D : Nat := 0x1D
  tseg2D : Nat := 10
  sjwD : Nat := 10
  st : CanSt := .off
  tdcv : Nat := 0
  recCnt : Nat := 0
  tecCnt : Nat := 0
  event : Word := 0
  lateDrop : Nat := 0
  unmatched : Nat := 0
  /-- consecutive error-free frames within ±0.1 % (R398) -/
  goodFrames : Nat := 0
  objs : Vector Obj 128
  /-- ELAPSED_US of the last bus-off entries (R438) -/
  busOffs : List Nat := []
  /-- the transceiver waits for the frame on the bus to end before standby (R396) -/
  leaving : Bool := false
  /-- LEAK and FAILSAFE frames sent since the trip and the expiry (R414) -/
  leakCount : Byte := 0
  failCount : Byte := 0
  /-- cycle count of the REFs sent (R416) -/
  cycle : Nat := 0
  /-- start of frame of the previous REF, in 20 ns units of elapsed time, and its EPOCH (R416, R417) -/
  prevSof : Option Nat := none
  refEpoch : Option Nat := none
  /-- the identity before a LACE_ID_SET, in force until the frame on the bus has ended (R399) -/
  oldId : Option (Bool × Nat) := none
  /-- ELAPSED_US of the last frame received (R439) -/
  lastFrame : Option Nat := none
deriving DecidableEq, Repr

/-- The ROW block and row time (R416, R417, R428, R455). -/
structure RowBlk where
  a : RowCh := { objs := Vector.ofFn fun m => Obj.default false m.val }
  b : RowCh := { en := false, brpN := 8, objs := Vector.ofFn fun m => Obj.default true m.val }
  /-- ROW_TSYNC.STATE: 0 unsynced, 1 locked, 2 slewing, 3 holdover -/
  tsync : Nat := 0
  masterA : Bool := false
  masterB : Bool := false
  src : Bool := false
  step : Bool := false
  rate : Int := 0
  /-- row time less ELAPSED_US -/
  offset : Int := 0
  epoch : Nat := 0
  /-- what the slew under way is to absorb, in µs, and ELAPSED_US at its start (R417) -/
  slew : Int := 0
  slewAt : Nat := 0
  /-- the state that ROW_TSYNC shows when the slew ends -/
  slewBack : Nat := 0
  /-- consecutive REFs with |e| ≤ 3 µs -/
  good : Nat := 0
deriving DecidableEq, Repr

/-! ## Stewardship (R434 to R452) -/

/-- STEWARD_CONFIG (R452). -/
structure StewCfg where
  en : Bool := true
  aNodes : BitVec 8 := 0x01
  rackCap : Nat := 1024
  bNodes : BitVec 16 := 0x0007
  rowCap : Nat := 3277
  rackDp : Nat := 1500
  cduDp : Nat := 2000
  supply : Nat := 1920
  fixedCmd : Nat := 0x8000
  dpFf : Nat := 0
deriving DecidableEq, Repr

/-- A FORECAST as last heard (R413): its fields in W and when. -/
structure Heard where
  at_ : Nat
  measW : Nat
  fs : List Nat
deriving DecidableEq, Repr

/-- The stewardship of one channel. -/
structure StewCh where
  term : Nat := 0
  holder : Nat := 0x3F
  referee : Bool := false
  /-- the terms of R435: ELAPSED_US of the last GRANT of type 0 and 1 heard -/
  grant0At : Option Nat := none
  grant1At : Option Nat := none
  grantHeld : Bool := false
  /-- FORECASTs heard, by source (R434 presence) -/
  heard : SMap Heard := []
  /-- candidates not eligible (R438) -/
  ineligible : List Nat := []
  /-- SCHEMA heard: ELAPSED_US of the last schema 1 FORECAST and of the last GRANT with SCHEMA 1 and 2 -/
  schema1Forecast : Option Nat := none
  grantSchema1 : Option Nat := none
  grantSchema2 : Option Nat := none
  /-- plant nodes heard: node, (ELAPSED_US, value, applied, term) -/
  plants : SMap (Nat × Int × Nat × Nat) := []
  /-- ELAPSED_US of the last GRANT that changed the holder, and the plant nodes heard in the second before it
  (R439) -/
  grantAt : Nat := 0
  checkNodes : List Nat := []
  /-- a takeback that the referee has opened: the requester (R443) -/
  takeback : Option Nat := none
deriving DecidableEq, Repr

/-- Saved state of a steward (R441): a push's core segments. -/
structure Push where
  push : Nat := 0
  term : Nat := 0
  segs : SMap (List Byte) := []
deriving DecidableEq, Repr

/-- The stewardship block. -/
structure StewBlk where
  cfg : StewCfg := {}
  pendCfg : Option StewCfg := none
  a : StewCh := {}
  b : StewCh := {}
  /-- push being received, the last complete push (island flash, R293) and the ELAPSED_US of its
  completion, `none` when that was before this island power-up -/
  partPush : Push := {}
  push : Option Push := none
  pushAt : Option Nat := none
  /-- table entries received: entry j of steward slot i at 4,096 i + j (R441) -/
  tables : SMap Int := []
  /-- own push counter -/
  pushNo : Byte := 0
  /-- own rack entry of the channel B LIMIT and when it came (R445, R446) -/
  rackEntry : Nat := 0xFFFF
  rackEntryAt : Option Nat := none
  /-- ELAPSED_US of the last channel A LIMIT for the own group (R447) -/
  limitAt : Option Nat := none
  /-- the first table segment of the next push, counted over the enabled steward slots (R441) -/
  tablePos : Nat := 0
deriving DecidableEq, Repr

/-! ## Time and event recorder (R453 to R472) -/

/-- An island record (R459); SEQ is given when it is programmed. -/
structure IslRec where
  powerOn : Nat
  elapsed : Nat
  epoch : Nat
  code : Nat
  rep : Nat
  arg : List Byte
deriving DecidableEq, Repr

/-- A main record (R460). -/
structure MainRec where
  powerOn : Nat
  elapsed : Nat
  epoch : Nat
  code : Nat
  rowTime : Nat
  jobId : Nat
  f : Nat
  pass : Nat
  island : Bool
  rowValid : Bool
  frameValid : Bool
  rep : Nat
  arg : List Byte
deriving DecidableEq, Repr

/-- A token bucket (R465): tokens, pending count, first and last suppressed times. -/
structure Bucket where
  tokens : Nat := 16
  pending : Nat := 0
  first : Nat := 0
  last : Nat := 0
deriving DecidableEq, Repr

/-- Time, both logs and their queues. -/
structure LogBlk where
  elapsed : Nat := 0
  powerOn : BitVec 32 := 0
  /-- halves captured by a read of a _LO register, per master ID (R468) -/
  capElapsed : Vector Word 8 := Vector.replicate 8 0
  capRow : Vector Word 8 := Vector.replicate 8 0
  /-- island queue, head first (R462), and the open record -/
  islQueue : List IslRec := []
  islOpen : Option IslRec := none
  islLost : Nat := 0
  /-- dropped since the last LOG_ISL_LOST -/
  islDropped : Nat := 0
  /-- pages of the island log, records with their SEQ in order; which is current (R463) -/
  pageA : List (Nat × IslRec) := []
  pageB : List (Nat × IslRec) := []
  curB : Bool := false
  pageErase : Bool := false
  islNext : Nat := 0
  /-- main record queue in SEQ order (R464) and the log as programmed, oldest first with each SEQ -/
  mainQueue : List MainRec := []
  mainLog : List (Nat × MainRec) := []
  /-- the sector after the current one is being erased; it has been erased (R464) -/
  sectorErase : Bool := false
  nextErased : Bool := false
  /-- SEQ of the next main record to be programmed; its low ten bits are the fill of the current sector -/
  mainNext : Nat := 0
  islCopied : Nat := 0
  suppr : Nat := 0
  buckets : SMap Bucket := []
deriving DecidableEq, Repr

/-! ## Firmware and security (R482 to R509) -/

/-- A firmware bank (R482, R483). -/
structure Bank where
  valid : Bool := false
  committed : Bool := false
  confirmed : Bool := false
  release : Nat := 0
  minRel : Nat := 0
  image : List Word := []
deriving DecidableEq, Repr

/-- A firmware target: MP, security or Cobbler. -/
structure Fw where
  a : Bank := { valid := true, confirmed := true }
  b : Bank := {}
  /-- running bank: false A, true B -/
  cur : Bool := false
  /-- the bank that ran before the activation under trial -/
  prev : Bool := false
  trial : Bool := false
  /-- the activated bank awaits its start (R484) -/
  armed : Bool := false
  /-- an FW_LOAD transfer is open -/
  loading : Bool := false
  /-- its transfer is complete and its words await the commit -/
  complete : Bool := false
  words : List Word := []
deriving DecidableEq, Repr

/-- Lifecycle (R501). -/
inductive Life where
  | manufacture | develop | production | returned
deriving DecidableEq, Repr

/-- Firmware, security processor and fuses. -/
structure SecBlk where
  mp : Fw := {}
  sec : Fw := {}
  isl : Fw := {}
  /-- the MP runs; the security processor runs -/
  mpRun : Bool := false
  secRun : Bool := false
  /-- release and bank that GEN_FW shows of the MP and the security processor while they are off (R198) -/
  mpShown : Nat × Bool := (0, false)
  secShown : Nat × Bool := (0, false)
  /-- both MP banks or both security banks failed (R498); of these, both security banks -/
  bootFailed : Bool := false
  secFailed : Bool := false
  bootErr : Nat := 0
  life : Life := .manufacture
  /-- lifecycle after the next island power-up (R501) -/
  pendLife : Option Life := none
  revoke : BitVec 8 := 0
  floorMp : Nat := 0
  floorSec : Nat := 0
  floorIsl : Nat := 0
  serial : BitVec 64 := 0
  secLock : Bool := false
  bindLock : Bool := false
  /-- 0 locked, 1 unlocked by token, 2 open (R506) -/
  debug : Nat := 2
  nonce : Option (BitVec 64) := none
  /-- owner key slots 4 to 7 loaded from the configuration block (R497) -/
  ownerKeys : BitVec 4 := 0
  /-- measurements M0 to M5 (R500) -/
  m : Vector (BitVec 384) 6 := Vector.replicate 6 0
  /-- last report per port, by its master's ID (R507, R508) -/
  reports : SMap (List Byte) := []
  /-- copies A and B of the repair record check (R475) -/
  repairA : Bool := true
  repairB : Bool := true
  repairCurB : Bool := false
deriving DecidableEq, Repr

/-! ## The health summary (R194 to R197) -/

/-- The registers that the control tick refreshes. -/
structure HealthBlk where
  state : Word := 0x00030000
  thermal : Word := 0
  power : Word := 0
deriving DecidableEq, Repr

/-- The whole block. `pending` is the queue of waiting commands, first in first out; `free` is the
model's own counter from which free values are drawn. -/
structure State where
  pending : List Instr := []
  free : Nat := 0
  port : PortBlk := {}
  mbx : MbxBlk := {}
  pwr : PwrBlk := {}
  isl : IslBlk := {}
  ctl : CtlBlk := {}
  vlv : VlvBlk := {}
  welt : WeltBlk := {}
  row : RowBlk := {}
  stew : StewBlk := {}
  log : LogBlk := {}
  last : LastBlk := {}
  core : CoreBlk := {}
  mem : MemBlk := {}
  lace : LaceBlk := {}
  sec : SecBlk := {}
  health : HealthBlk := {}
deriving DecidableEq, Repr

/-- The state right after reset: V_ISL has just become good on a package as it leaves manufacture
(R295, R313, R454), every field at its Reset value. -/
def State.reset : State := {}

/-- Why the block stops. Every row of the table has its effect in every state, so no meaning stops. -/
inductive Fault where
  /-- V_ISL is not good: no register, no port and no engine of the block exists (R515, R267). Raised by no
  command: without V_ISL a command has no effect and its meaning answers the unchanged state. Safe: were it
  raised, the model would stop where the hardware does nothing. -/
  | islandOff
deriving DecidableEq, Repr

/-- Why a command has no meaning. -/
inductive Refusal where
  /-- the command has no meaning in the model yet; raised by no arm once every row is modelled; safe -/
  | notModelled (mnemonic : String)
deriving DecidableEq, Repr

end Sys2Proof.Machine
end

