-- ==== Sys2Proof/Machine/Operands.lean ====
section
/-! DEFINITION. Fields of words, bytes of numbers, sparse tables and memories: the forms in which
commands carry operands and registers carry fields. -/

namespace Sys2Proof.Machine

/-! ## Words and fields -/

/-- The field of width n whose low bit is lo. -/
def fld (w : Word) (lo n : Nat) : Nat := (w.toNat >>> lo) % 2 ^ n

/-- Bit i of a word. -/
def bitOf (w : Word) (i : Nat) : Bool := w.getLsbD i

/-- The word whose fields (low bit, value) are given; values fit their fields. -/
def mkW (l : List (Nat × Nat)) : Word :=
  BitVec.ofNat 32 (l.foldl (fun a p => a ||| p.2 <<< p.1) 0)

/-- The word with a number's low 32 bits. -/
def w32 (n : Nat) : Word := BitVec.ofNat 32 n

/-- Bits 63 to 32 of a number. -/
def hi32 (n : Nat) : Word := BitVec.ofNat 32 (n / 2 ^ 32)

/-- A number from its halves. -/
def of64 (lo hi : Word) : Nat := lo.toNat + hi.toNat * 2 ^ 32

/-- The signed number in the low n bits. -/
def sext (n v : Nat) : Int :=
  let u := v % 2 ^ n
  if u < 2 ^ (n - 1) then (u : Int) else (u : Int) - 2 ^ n

/-- The n-bit two's-complement code of a number. -/
def ofInt (n : Nat) (x : Int) : Nat := (x % 2 ^ n).toNat

/-- Saturation to the signed n-bit range. -/
def satInt (n : Nat) (x : Int) : Int := max (-(2 ^ (n - 1))) (min (2 ^ (n - 1) - 1) x)

/-- A count that holds at its limit. -/
def satAdd (limit a b : Nat) : Nat := min limit (a + b)

/-- Clamping to a range (R208). -/
def clampN (lo hi v : Nat) : Nat := max lo (min hi v)

/-- Clamping of a signed value (R208). -/
def clampI (lo hi v : Int) : Int := max lo (min hi v)

/-- The nearer of two legal values, the lower on a tie (R208). -/
def closer (v a b : Nat) : Nat :=
  let da := max v a - min v a
  let db := max v b - min v b
  if db < da then b else if da < db then a else min a b

/-- The nearest of the legal values, the lower one on a tie (R208). -/
def nearestOf (legal : List Nat) (v : Nat) : Nat :=
  match legal with
  | [] => v
  | x :: xs => xs.foldl (closer v) x

/-- Word n of a list, 0 beyond its end. -/
def wd (l : List Word) (n : Nat) : Word := l.getD n 0

/-- 2 to the n, as an integer. -/
def pow2 (n : Nat) : Int := 2 ^ n

/-- Floor division. -/
def fdiv (a : Int) (b : Int) : Int := a.fdiv b

/-- The least multiple of k that is at least n. -/
def roundUp (n k : Nat) : Nat := (n + k - 1) / k * k

/-- The b-bit of a flag. -/
def bn (b : Bool) : Nat := b.toNat

/-! ## Bytes -/

/-- The n low bytes of a number, least significant first. -/
def leBytes (n v : Nat) : List Byte := (List.range n).map fun i => BitVec.ofNat 8 (v / 256 ^ i)

/-- The number that bytes spell, least significant first. -/
def leNat (l : List Byte) : Nat := l.foldr (fun b a => b.toNat + 256 * a) 0

/-- A word's bytes, least significant first. -/
def wordBytes (w : Word) : List Byte := leBytes 4 w.toNat

/-- The bytes of a list of words. -/
def wordsBytes (l : List Word) : List Byte := l.flatMap wordBytes

/-- The word at byte offset i of a list of bytes. -/
def wordAt (l : List Byte) (i : Nat) : Word := w32 (leNat ((l.drop i).take 4))

/-- The list cut or padded with zeros to n bytes. -/
def padTo (n : Nat) (l : List Byte) : List Byte := l.take n ++ List.replicate (n - l.length) 0

/-- Bytes as words, the last one padded with zeros. -/
def bytesWords (l : List Byte) : List Word :=
  (List.range ((l.length + 3) / 4)).map fun i => wordAt l (4 * i)

/-- One step of CRC-32C (reflected polynomial 0x82F6_3B78). -/
def crcBit (c : Word) : Word := if c.getLsbD 0 then (c >>> 1) ^^^ 0x82F63B78#32 else c >>> 1

/-- One byte of CRC-32C. -/
def crcByte (c : Word) (b : Byte) : Word :=
  let x := c ^^^ b.setWidth 32
  crcBit (crcBit (crcBit (crcBit (crcBit (crcBit (crcBit (crcBit x)))))))

/-- CRC-32C of bytes (R459, R460, R77). -/
def crc32c (l : List Byte) : Word := ~~~(l.foldl crcByte 0xFFFFFFFF#32)

/-! ## Vectors -/

/-- Entry i of a vector, a default beyond its end. -/
def vget {α : Type} {n : Nat} (v : Vector α n) (i : Nat) (d : α) : α := v[i]?.getD d

/-- The vector with entry i changed by a function. -/
def vmod {α : Type} {n : Nat} (v : Vector α n) (i : Nat) (f : α → α) : Vector α n :=
  match v[i]? with
  | some x => v.setIfInBounds i (f x)
  | none => v

/-! ## Sparse tables: keys strictly rising -/

/-- The value at a key. -/
def sget {α : Type} (m : SMap α) (k : Nat) : Option α :=
  match m with
  | [] => none
  | (j, x) :: t => if j = k then some x else sget t k

/-- The table with a key's value set. -/
def sput {α : Type} (m : SMap α) (k : Nat) (x : α) : SMap α :=
  match m with
  | [] => [(k, x)]
  | (j, y) :: t =>
    if k < j then (k, x) :: (j, y) :: t
    else if k = j then (k, x) :: t
    else (j, y) :: sput t k x

/-- The table without a key. -/
def sdel {α : Type} (m : SMap α) (k : Nat) : SMap α :=
  match m with
  | [] => []
  | (j, y) :: t => if j = k then t else (j, y) :: sdel t k

/-- Keys strictly rising, all above a bound where one is given. -/
def sortedFrom {α : Type} : Option Nat → SMap α → Bool
  | _, [] => true
  | none, (j, _) :: t => sortedFrom (some j) t
  | some b, (j, _) :: t => decide (b < j) && sortedFrom (some j) t

/-- The set of numbers with one added, in rising order. -/
def addSorted (l : List Nat) (k : Nat) : List Nat :=
  match l with
  | [] => [k]
  | j :: t => if k < j then k :: j :: t else if k = j then j :: t else j :: addSorted t k

/-! ## Memories -/

/-- The byte at an address; an unlisted one reads 0 (R114, R122). -/
def Mem.get (m : Mem) (a : Nat) : Byte := (sget m a).getD 0

/-- The memory with a byte stored; a zero byte is not listed. -/
def Mem.set (m : Mem) (a : Nat) (b : Byte) : Mem := if b = 0 then sdel m a else sput m a b

/-- The canonical form: addresses strictly rising and no zero byte listed. -/
def Memory.wf (m : Mem) : Bool := sortedFrom none m && m.all fun c => c.2 != 0

/-- n bytes from an address. -/
def Mem.read (m : Mem) (a n : Nat) : List Byte := (List.range n).map fun i => m.get (a + i)

/-- The memory with bytes stored from an address on. -/
def Mem.write (m : Mem) (a : Nat) : List Byte → Mem
  | [] => m
  | b :: t => Mem.write (m.set a b) (a + 1) t

/-- The memory without the bytes of [lo, hi). -/
def Mem.clear (m : Mem) (lo hi : Nat) : Mem := m.filter fun c => c.1 < lo || hi ≤ c.1

end Sys2Proof.Machine
end

