-- ==== Sys2Proof/Machine/Flags.lean ====
section
/-! DEFINITION. How software writes and hardware updates change register fields: the type codes of R4
and the byte enables of R255. -/

namespace Sys2Proof.Machine

/-- The bits that a write's byte enables let act (R255). -/
def beMask (be : BitVec 4) : Word :=
  (if be.getLsbD 0 then 0xFF#32 else 0) ||| (if be.getLsbD 1 then 0xFF00#32 else 0) |||
  (if be.getLsbD 2 then 0xFF0000#32 else 0) ||| (if be.getLsbD 3 then 0xFF000000#32 else 0)

/-- RW fields under a mask: enabled bytes load, the rest stays (R4, R255). -/
def wRW (mask old w : Word) (be : BitVec 4) : Word :=
  let m := mask &&& beMask be
  (old &&& ~~~m) ||| (w &&& m)

/-- W1C fields under a mask: a 1 clears, disabled bytes act as 0 (R4, R255). -/
def wW1C (mask old w : Word) (be : BitVec 4) : Word := old &&& ~~~(w &&& mask &&& beMask be)

/-- W1S fields under a mask (R4, R255). -/
def wW1S (mask old w : Word) (be : BitVec 4) : Word := old ||| (w &&& mask &&& beMask be)

/-- A WO register written with any byte disabled ignores the whole write (R255). -/
def woActs (be : BitVec 4) : Bool := be == 0xF#4

/-- A hardware set of an event bit. -/
def setBit (w : Word) (i : Nat) : Word := w ||| (1#32 <<< i)

/-- The word with a bit given a value. -/
def putBit (w : Word) (i : Nat) (b : Bool) : Word :=
  if b then w ||| (1#32 <<< i) else w &&& ~~~(1#32 <<< i)

end Sys2Proof.Machine
end

