-- ==== Sys2Proof/Machine/Events.lean ====
section
/-! DEFINITION. The event codes of R471, R488 and R509 and their classes. -/

namespace Sys2Proof.Machine

/-- ISLAND_POWER_ON (class I). -/
abbrev Ev.islandPowerOn : Nat := 0x000
/-- MBX_ACCESS_DENIED (class W). -/
abbrev Ev.mbxAccessDenied : Nat := 0x001
/-- PWR_PG_TIMEOUT (class E). -/
abbrev Ev.pwrPgTimeout : Nat := 0x100
/-- PWR_PG_STUCK (class W). -/
abbrev Ev.pwrPgStuck : Nat := 0x101
/-- PDSEQ_RAILFAIL (class C). -/
abbrev Ev.pdseqRailfail : Nat := 0x102
/-- PWR_RAIL_FAULT (class C). -/
abbrev Ev.pwrRailFault : Nat := 0x103
/-- UNCLEAN_LOSS (class C). -/
abbrev Ev.uncleanLoss : Nat := 0x104
/-- PWR_THROTTLE_ESCALATE (class W). -/
abbrev Ev.pwrThrottleEscalate : Nat := 0x180
/-- PWR_COLD_START (class I). -/
abbrev Ev.pwrColdStart : Nat := 0x181
/-- SENSOR_FAULT (class W). -/
abbrev Ev.sensorFault : Nat := 0x200
/-- SENSOR_RECOVERED (class I). -/
abbrev Ev.sensorRecovered : Nat := 0x201
/-- SENSOR_DISAGREE (class W). -/
abbrev Ev.sensorDisagree : Nat := 0x202
/-- CAL_DEFAULT (class W). -/
abbrev Ev.calDefault : Nat := 0x204
/-- TOECAP_EXPIRY (class C). -/
abbrev Ev.toecapExpiry : Nat := 0x205
/-- LOOP_IMPLAUSIBLE (class E). -/
abbrev Ev.loopImplausible : Nat := 0x210
/-- LOOP_SATURATED (class W). -/
abbrev Ev.loopSaturated : Nat := 0x211
/-- VALVE_STUCK (class W). -/
abbrev Ev.valveStuck : Nat := 0x220
/-- VALVE_COIL_FAULT (class E). -/
abbrev Ev.valveCoilFault : Nat := 0x221
/-- VALVE_SUPPLY_LOST (class E). -/
abbrev Ev.valveSupplyLost : Nat := 0x222
/-- PUMP_STALL (class E). -/
abbrev Ev.pumpStall : Nat := 0x223
/-- LEAK_TRIP (class C). -/
abbrev Ev.leakTrip : Nat := 0x230
/-- LEAK_CLEARED (class I). -/
abbrev Ev.leakCleared : Nat := 0x231
/-- WELT_SENSE_FAULT (class W). -/
abbrev Ev.weltSenseFault : Nat := 0x232
/-- WELT_DISARM (class I). -/
abbrev Ev.weltDisarm : Nat := 0x233
/-- FLOW_IMBALANCE (class E). -/
abbrev Ev.flowImbalance : Nat := 0x234
/-- THERMAL_TRIP (class C). -/
abbrev Ev.thermalTrip : Nat := 0x236
/-- ROW_ERR_PASSIVE (class W). -/
abbrev Ev.rowErrPassive : Nat := 0x240
/-- ROW_BUS_OFF (class E). -/
abbrev Ev.rowBusOff : Nat := 0x241
/-- ROW_BUS_ON (class I). -/
abbrev Ev.rowBusOn : Nat := 0x242
/-- ROW_ABANDONED (class W). -/
abbrev Ev.rowAbandoned : Nat := 0x243
/-- STEWARD_TAKEOVER (class I). -/
abbrev Ev.stewardTakeover : Nat := 0x250
/-- STEWARD_RELEASE (class I). -/
abbrev Ev.stewardRelease : Nat := 0x251
/-- STEWARD_LATENT_FAULT (class E). -/
abbrev Ev.stewardLatentFault : Nat := 0x252
/-- STEWARD_STATE_SKEW (class W). -/
abbrev Ev.stewardStateSkew : Nat := 0x253
/-- STEWARD_CAP_LOST (class W). -/
abbrev Ev.stewardCapLost : Nat := 0x254
/-- LAST_LOAD_REJECT (class E). -/
abbrev Ev.lastLoadReject : Nat := 0x380
/-- LAST_UNSIGNED (class W). -/
abbrev Ev.lastUnsigned : Nat := 0x381
/-- LAST_SWITCH_DONE (class I). -/
abbrev Ev.lastSwitchDone : Nat := 0x382
/-- LAST_MARKER_MISMATCH (class E). -/
abbrev Ev.lastMarkerMismatch : Nat := 0x383
/-- LAST_SHED (class W). -/
abbrev Ev.lastShed : Nat := 0x384
/-- LAST_FRAME_FAULT (class C). -/
abbrev Ev.lastFrameFault : Nat := 0x385
/-- LAST_INDIRECT_RANGE (class W). -/
abbrev Ev.lastIndirectRange : Nat := 0x386
/-- MEM_SRAM_UE (class E). -/
abbrev Ev.memSramUe : Nat := 0x480
/-- MEM_POISON_USED (class E). -/
abbrev Ev.memPoisonUsed : Nat := 0x481
/-- MEM_HBM_RETRY (class W). -/
abbrev Ev.memHbmRetry : Nat := 0x482
/-- MEM_HBM_UE (class E). -/
abbrev Ev.memHbmUe : Nat := 0x483
/-- HBM_TRAIN_FAIL (class E). -/
abbrev Ev.hbmTrainFail : Nat := 0x484
/-- SPILL_TIMEOUT (class E). -/
abbrev Ev.spillTimeout : Nat := 0x485
/-- SPILL_REMOTE_ERR (class E). -/
abbrev Ev.spillRemoteErr : Nat := 0x486
/-- CORE_PARITY (class E). -/
abbrev Ev.coreParity : Nat := 0x490
/-- CORE_SWAP_SRAM_LOST (class E). -/
abbrev Ev.coreSwapSramLost : Nat := 0x491
/-- CORE_SWAP_DONE (class I). -/
abbrev Ev.coreSwapDone : Nat := 0x4A0
/-- CORE_RETIRED (class W). -/
abbrev Ev.coreRetired : Nat := 0x4A1
/-- HBM_RETIRED (class W). -/
abbrev Ev.hbmRetired : Nat := 0x4A2
/-- SYSTEM_REGION_MOVED (class W). -/
abbrev Ev.systemRegionMoved : Nat := 0x4A3
/-- REPAIR_RECORD_LOST (class C). -/
abbrev Ev.repairRecordLost : Nat := 0x4A4
/-- LACE_LIGHT_LOSS (class E). -/
abbrev Ev.laceLightLoss : Nat := 0x580
/-- LACE_TRAIN_FAIL (class E). -/
abbrev Ev.laceTrainFail : Nat := 0x581
/-- LACE_MISWIRE (class E). -/
abbrev Ev.laceMiswire : Nat := 0x582
/-- LACE_VER_FAIL (class E). -/
abbrev Ev.laceVerFail : Nat := 0x583
/-- LACE_LANE_DOWN (class W). -/
abbrev Ev.laceLaneDown : Nat := 0x584
/-- LACE_TIMEOUT (class W). -/
abbrev Ev.laceTimeout : Nat := 0x585
/-- LACE_PEER_RESET (class W). -/
abbrev Ev.lacePeerReset : Nat := 0x586
/-- LACE_COLL_MISMATCH (class E). -/
abbrev Ev.laceCollMismatch : Nat := 0x587
/-- LACE_JOIN_REFUSED (class W). -/
abbrev Ev.laceJoinRefused : Nat := 0x588
/-- LACE_LANE_RETIRED (class W). -/
abbrev Ev.laceLaneRetired : Nat := 0x590
/-- LACE_LANE_RESTORED (class I). -/
abbrev Ev.laceLaneRestored : Nat := 0x591
/-- ROW_TIME_STEP (class I). -/
abbrev Ev.rowTimeStep : Nat := 0x600
/-- LOG_ISL_LOST (class W). -/
abbrev Ev.logIslLost : Nat := 0x601
/-- LOG_SUPPRESSED (class I). -/
abbrev Ev.logSuppressed : Nat := 0x680
/-- FW_ISL_ACTIVATED (class I). -/
abbrev Ev.fwIslActivated : Nat := 0x700
/-- FW_ISL_ROLLBACK (class E). -/
abbrev Ev.fwIslRollback : Nat := 0x701
/-- FW_ISL_BANK_SWITCH (class E). -/
abbrev Ev.fwIslBankSwitch : Nat := 0x702
/-- FW_COMMITTED (class I). -/
abbrev Ev.fwCommitted : Nat := 0x780
/-- FW_REJECTED (class E). -/
abbrev Ev.fwRejected : Nat := 0x781
/-- FW_ACTIVATED (class I). -/
abbrev Ev.fwActivated : Nat := 0x782
/-- FW_ROLLBACK (class E). -/
abbrev Ev.fwRollback : Nat := 0x783
/-- DOMAIN_RESET (class I). -/
abbrev Ev.domainReset : Nat := 0x790
/-- ISL_BOOT_FALLBACK (class E). -/
abbrev Ev.islBootFallback : Nat := 0x800
/-- ISL_BOOT_FAIL (class C). -/
abbrev Ev.islBootFail : Nat := 0x801
/-- SEC_BOOT_FALLBACK (class E). -/
abbrev Ev.secBootFallback : Nat := 0x880
/-- SEC_BOOT_FAIL (class C). -/
abbrev Ev.secBootFail : Nat := 0x881
/-- SEC_LIFECYCLE_CHANGED (class W). -/
abbrev Ev.secLifecycleChanged : Nat := 0x882
/-- SEC_DEBUG_OPENED (class W). -/
abbrev Ev.secDebugOpened : Nat := 0x883
/-- SEC_AUTH_REJECT (class W). -/
abbrev Ev.secAuthReject : Nat := 0x884
/-- SEC_SLOT_REVOKED (class W). -/
abbrev Ev.secSlotRevoked : Nat := 0x885
/-- SEC_FLOOR_RAISED (class I). -/
abbrev Ev.secFloorRaised : Nat := 0x886
/-- SENSOR_CAL_RESULT (class I). -/
abbrev Ev.sensorCalResult : Nat := 0x901
/-- LOOP_TEST_ABORT (class W). -/
abbrev Ev.loopTestAbort : Nat := 0x903
/-- VALVE_TEST_RESULT (class I). -/
abbrev Ev.valveTestResult : Nat := 0x905
/-- CORE_SELFTEST_RESULT (class I). -/
abbrev Ev.coreSelftestResult : Nat := 0x980

/-- The codes of class critical (R471). -/
def critCodes : List Nat :=
  [0x102, 0x103, 0x104, 0x205, 0x230, 0x236, 0x385, 0x4A4, 0x801, 0x881]

/-- The codes of class error (R471). -/
def errCodes : List Nat :=
  [0x100, 0x210, 0x221, 0x222, 0x223, 0x234, 0x241, 0x252, 0x380, 0x383, 0x480, 0x481,
   0x483, 0x484, 0x485, 0x486, 0x490, 0x491, 0x580, 0x581, 0x582, 0x583, 0x587, 0x701,
   0x702, 0x781, 0x783, 0x800, 0x880]

/-- The codes of class warning (R471). -/
def warnCodes : List Nat :=
  [0x001, 0x101, 0x180, 0x200, 0x202, 0x204, 0x211, 0x220, 0x232, 0x240, 0x243, 0x253,
   0x254, 0x381, 0x384, 0x386, 0x482, 0x4A1, 0x4A2, 0x4A3, 0x584, 0x585, 0x586, 0x588,
   0x590, 0x601, 0x882, 0x883, 0x884, 0x885, 0x903]

/-- The class of a code: 0 info, 1 warning, 2 error, 3 critical (R460, R471). -/
def evClass (c : Nat) : Nat :=
  if critCodes.contains c then 3 else if errCodes.contains c then 2
  else if warnCodes.contains c then 1 else 0

/-- Codes whose bits [7:6] are 0b00 or 0b01 are island records (R471). -/
def evIsland (c : Nat) : Bool := c / 64 % 4 < 2

end Sys2Proof.Machine
end

