-- ==== Sys2Proof/Machine/Ops.lean ====
section
/-! DEFINITION. The operations that commands share: changing one block of the state, raising event
records, power-domain tests, reply slots and command windows, mailboxes and locks under resets. -/

namespace Sys2Proof.Machine

/-- What a step answers. -/
abbrev Out := Host.Outcome State Fault Refusal

/-- A meaning's next state: with V_ISL off nothing of the block runs (R515). -/
def live (s t : State) : Out := .next (if s.isl.on then t else s)

/-! ## One block of the state -/

def State.onPort (f : PortBlk → PortBlk) (s : State) : State := { s with port := f s.port }
def State.onMbx (f : MbxBlk → MbxBlk) (s : State) : State := { s with mbx := f s.mbx }
def State.onPwr (f : PwrBlk → PwrBlk) (s : State) : State := { s with pwr := f s.pwr }
def State.onIsl (f : IslBlk → IslBlk) (s : State) : State := { s with isl := f s.isl }
def State.onCtl (f : CtlBlk → CtlBlk) (s : State) : State := { s with ctl := f s.ctl }
def State.onVlv (f : VlvBlk → VlvBlk) (s : State) : State := { s with vlv := f s.vlv }
def State.onWelt (f : WeltBlk → WeltBlk) (s : State) : State := { s with welt := f s.welt }
def State.onRow (f : RowBlk → RowBlk) (s : State) : State := { s with row := f s.row }
def State.onStew (f : StewBlk → StewBlk) (s : State) : State := { s with stew := f s.stew }
def State.onLog (f : LogBlk → LogBlk) (s : State) : State := { s with log := f s.log }
def State.onLast (f : LastBlk → LastBlk) (s : State) : State := { s with last := f s.last }
def State.onCore (f : CoreBlk → CoreBlk) (s : State) : State := { s with core := f s.core }
def State.onMem (f : MemBlk → MemBlk) (s : State) : State := { s with mem := f s.mem }
def State.onLace (f : LaceBlk → LaceBlk) (s : State) : State := { s with lace := f s.lace }
def State.onSec (f : SecBlk → SecBlk) (s : State) : State := { s with sec := f s.sec }
def State.onHealth (f : HealthBlk → HealthBlk) (s : State) : State := { s with health := f s.health }

/-- The change made only under a condition. -/
def State.whenB (c : Bool) (f : State → State) (s : State) : State := if c then f s else s

/-! ## Power domains (R10) -/

/-- A rail is enabled and good. -/
def railUp (s : State) (r : Nat) : Bool := s.pwr.en.getLsbD r && s.pwr.pg.getLsbD r

/-- The Management domain is powered: VDD_IO (R10). -/
def mgmtOn (s : State) : Bool := railUp s 0

/-- The compute domains are powered: VDD_SRAM and the four core rails (R10). -/
def computeOn (s : State) : Bool := railUp s 3 && railUp s 4 && railUp s 5 && railUp s 6 && railUp s 7

/-- The Optical domain is powered: VDD_OPT (R10). -/
def opticalOn (s : State) : Bool := railUp s 8

/-- The power domain of a master is on (R230, R231). -/
def masterOn (s : State) (m : Nat) : Bool := m == 3 || m == 5 || mgmtOn s

/-- A master can issue an access: its power domain is on and it is not held in reset (R230, R231,
R504). -/
def masterReach (s : State) : Master → Bool
  | .hostCtl => mgmtOn s && !s.port.perst
  | .hostData => mgmtOn s && !s.port.perst
  | .tray => !s.port.tbRst
  | .mp => mgmtOn s && s.sec.mpRun
  | .cobbler => !s.isl.procReset
  | .security => mgmtOn s && s.sec.secRun
  | .debug => mgmtOn s && s.sec.debug != 0

/-- A Last is RUNNING or PAUSED. -/
def lastBusy (s : State) : Bool := s.last.st == .running || s.last.st == .paused

/-- The package is in S0 or S1. -/
def inS0S1 (s : State) : Bool := s.pwr.pstate == .s0 || s.pwr.pstate == .s1

/-! ## Time -/

/-- What the slew under way has absorbed so far: the time since its start at RATE, at most what it is to
absorb; in holdover row time runs on at RATE (R417). -/
def slewed (s : State) : Int :=
  let d := (((s.log.elapsed - s.row.slewAt : Nat) : Int) * s.row.rate).tdiv 10000000
  if s.row.tsync = 3 then d
  else if 0 ≤ s.row.slew then max 0 (min d s.row.slew) else min 0 (max d s.row.slew)

/-- Row time less ELAPSED_US (R455, R417). -/
def rowOffset (s : State) : Int := s.row.offset + slewed s

/-- Row time: ELAPSED_US plus an offset, 64 bits (R455). -/
def rowTime (s : State) : Nat := ofInt 64 ((s.log.elapsed : Int) + rowOffset s)

/-- A time stamp is at most d microseconds old. -/
def youngerThan (s : State) (d : Nat) (t : Nat) : Bool := decide (s.log.elapsed < t + d)

/-! ## Event records (R458 to R467, R471) -/

/-- ARG of n bytes from values with their sizes, in the order named (R461). -/
def mkArg (n : Nat) (args : List (Nat × Nat)) : List Byte := padTo n (args.flatMap fun a => leBytes a.1 a.2)

/-- The list without its last element that meets a test, and that element. -/
def takeLast? {α : Type} (p : α → Bool) (l : List α) : Option (α × List α) :=
  let r := l.reverse
  match r.find? p with
  | none => none
  | some x => some (x, (r.eraseP p).reverse)

/-- The open island record goes to the queue (R462). -/
def closeOpen (l : LogBlk) : LogBlk :=
  match l.islOpen with
  | none => l
  | some r => { l with islQueue := l.islQueue ++ [r], islOpen := none }

/-- One island record counts as dropped (R462). -/
def islDrop (l : LogBlk) : LogBlk :=
  { l with islLost := satAdd 0xFFFF l.islLost 1, islDropped := l.islDropped + 1 }

/-- A critical island record: to the head of the queue, displacing the newest non-critical record of a
full one (R462, R467). -/
def islCritical (r : IslRec) (l0 : LogBlk) : LogBlk :=
  let l := closeOpen l0
  if l.islQueue.length < 32 then { l with islQueue := r :: l.islQueue }
  else
    match takeLast? (fun x : IslRec => evClass x.code != 3) l.islQueue with
    | some (_, q) => islDrop { l with islQueue := r :: q }
    | none => { l with islQueue := r :: l.islQueue }

/-- A non-critical island record: folded into an equal open record, else the new open record; dropped
when the queue is full (R462). DEDUCED: the open record takes one of the queue's 32 places
(notes/assumptions/10). -/
def islNormal (r : IslRec) (l : LogBlk) : LogBlk :=
  match l.islOpen with
  | some o =>
    if o.code = r.code ∧ o.arg = r.arg then { l with islOpen := some { o with rep := satAdd 0xFFFF o.rep 1 } }
    else
      let c := closeOpen l
      if c.islQueue.length < 32 then { c with islOpen := some r } else islDrop c
  | none => if l.islQueue.length < 32 then { l with islOpen := some r } else islDrop l

/-- Raising an island record (R458, R459, R462). -/
def islRaise (code : Nat) (args : List (Nat × Nat)) (s : State) : State :=
  let r : IslRec := { powerOn := s.log.powerOn.toNat, elapsed := s.log.elapsed, epoch := s.row.epoch,
                      code := code, rep := 0, arg := mkArg 6 args }
  s.onLog (if evClass code = 3 then islCritical r else islNormal r)

/-- The bucket of a code (R465). -/
def bucketOf (l : LogBlk) (code : Nat) : Bucket := (sget l.buckets code).getD {}

/-- A record of a code is suppressed: counted for the code and in LOG_SUPPR_CNT (R465). -/
def suppress (code elapsed : Nat) (l : LogBlk) : LogBlk :=
  let b := bucketOf l code
  { l with suppr := satAdd 0xFFFFFFFF l.suppr 1
           buckets := sput l.buckets code
             { b with pending := b.pending + 1
                      first := if b.pending = 0 then elapsed else b.first, last := elapsed } }

/-- Codes without a token bucket: the critical ones and LOG_SUPPRESSED (R465). -/
def unlimited (code : Nat) : Bool := evClass code == 3 || code == Ev.logSuppressed

/-- A main record enters the MP's record queue (R464). -/
def enqueueMain (r : MainRec) (l : LogBlk) : LogBlk :=
  if l.mainQueue.length < 4096 then { l with mainQueue := l.mainQueue ++ [r] }
  else if evClass r.code = 3 then
    match takeLast? (fun x : MainRec => evClass x.code != 3) l.mainQueue with
    | some (x, q) => suppress x.code x.elapsed { l with mainQueue := q ++ [r] }
    | none => { l with mainQueue := l.mainQueue ++ [r] }
  else suppress r.code r.elapsed l

/-- A main record with its token (R465). -/
def admitMain (r : MainRec) (l : LogBlk) : LogBlk :=
  if unlimited r.code then enqueueMain r l
  else
    let b := bucketOf l r.code
    if b.tokens = 0 then suppress r.code r.elapsed l
    else if l.mainQueue.length < 4096 then
      enqueueMain r { l with buckets := sput l.buckets r.code { b with tokens := b.tokens - 1 } }
    else enqueueMain r l

/-- A main record as it is written now (R460). -/
def mkMain (s : State) (code : Nat) (args : List (Nat × Nat)) : MainRec :=
  let rv := s.row.epoch != 0
  let fv := lastBusy s
  { powerOn := s.log.powerOn.toNat, elapsed := s.log.elapsed, epoch := s.row.epoch, code := code,
    rowTime := if rv then rowTime s else 0, jobId := if fv then s.last.jobId else 0,
    f := if fv then s.last.f else 0, pass := if fv then s.last.pass.toNat else 0,
    island := false, rowValid := rv, frameValid := fv, rep := 0, arg := mkArg 20 args }

/-- Raising a main record; without the Management domain there is nothing to raise or hold it. -/
def mainRaise (code : Nat) (args : List (Nat × Nat)) (s : State) : State :=
  if mgmtOn s then s.onLog (admitMain (mkMain s code args)) else s

/-- Raising an event with the values its rule names, as (bytes, value) (R458, R461, R471). -/
def raise (code : Nat) (args : List (Nat × Nat)) (s : State) : State :=
  if evIsland code then islRaise code args s else mainRaise code args s

/-! ## Device wakes and PWR_EVENT (R269, R287) -/

/-- A device cause asserts `WAKE#`: in S2 and S3, and while the host link is in L1 or D3hot (R269). FREE VALUE: the
link's state (notes/assumptions/141). -/
def deviceWakes (s : State) : Bool := !inS0S1 s || Config.linkLow s.log.elapsed s.free

/-- A device wake cause: latched where it asserts `WAKE#`; what lies behind it waits for the host's resume (R269,
R271). -/
def deviceWake (bit : Nat) (s : State) : State :=
  if deviceWakes s then
    s.onPwr fun p =>
      { p with wakeCause := setBit p.wakeCause bit, wakeDue := setBit p.wakeDue bit, wakePin := true }
  else s

/-- Cobbler latches a cause of PWR_EVENT (R283, R287). -/
def pwrEvent (bit : Nat) (s : State) : State := s.onPwr fun p => { p with event := setBit p.event bit }

/-! ## Command windows (R204 to R226) -/

/-- The window of a port (R185). -/
def State.win (s : State) : Port → Window
  | .host => s.port.host
  | .tray => s.port.tray
  | .cobbler => s.port.cobbler
  | .security => s.port.security
  | .debug => s.port.debug

/-- The state with a port's window changed. -/
def State.onWin (p : Port) (f : Window → Window) (s : State) : State :=
  s.onPort fun b =>
    match p with
    | .host => { b with host := f b.host }
    | .tray => { b with tray := f b.tray }
    | .cobbler => { b with cobbler := f b.cobbler }
    | .security => { b with security := f b.security }
    | .debug => { b with debug := f b.debug }

/-- The five ports, in the order of R218. -/
def allPorts : List Port := [.host, .tray, .cobbler, .security, .debug]

/-- The replies of CMD_DONE_LO and CMD_DONE_HI as 64 bits (R215). -/
def doneBits (w : Window) : BitVec 64 :=
  w.replies.foldl (fun a r => a ||| (1#64 <<< r.1)) 0

/-- A mailbox interrupt to a master is pending: a channel bound to it is full (R238). -/
def mbxPending (s : State) (m : Nat) : Bool := s.mbx.ch.toList.any fun c => c.doorbell && c.receiver == m

/-- The condition of R217 for a port. -/
def irqCond (s : State) (p : Port) : Bool :=
  !(s.win p).replies.isEmpty || (s.win p).rejected || mbxPending s p.master.id

/-- A vector's table entry when the vector is raised: a masked one becomes pending (R187). -/
def Msix.raised (x : Msix) : Msix := { x with pending := x.pending || x.masked }

/-- Control-function vector n, 0 to 2, is raised (R187). -/
def raiseVec (n : Nat) (b : PortBlk) : PortBlk :=
  { b with msix0 := vmod b.msix0 n Msix.raised
           vec0 := b.vec0 + bn (n == 0), vec1 := b.vec1 + bn (n == 1), vec2 := b.vec2 + bn (n == 2) }

/-- Data-function vector 0 is raised (R187). -/
def raiseDataVec (b : PortBlk) : PortBlk :=
  { b with msix1 := vmod b.msix1 0 Msix.raised, dvec0 := b.dvec0 + 1 }

/-- Control-function vector 0 is raised once on each rising of the host's condition (R217). -/
def evalIrq (s : State) : State :=
  let c := irqCond s .host
  s.onPort fun b => { (if c && !b.hostIrq then raiseVec 0 b else b) with hostIrq := c }

/-- A tag is in flight on its port: posted and its DONE bit not yet released (R218). -/
def inFlight (s : State) (p : Port) (tag : BitVec 6) : Bool :=
  (sget (s.win p).replies tag.toNat).isSome ||
    s.port.ctx.any fun e => e.port == p && e.tag == tag && !e.silent

/-- The number of tags in flight on a port, CMD_STAT.PORT (R216). -/
def tagsInFlight (s : State) (p : Port) : Nat :=
  (s.win p).replies.length + (s.port.ctx.filter fun e => e.port == p && !e.silent).length

/-- Entries of the context RAM in use, CMD_STAT.TOTAL (R216, R219). -/
def ctxInUse (s : State) : Nat := (s.port.ctx.filter fun e => e.inRam).length

/-- A reply in its slot (R205). -/
def putReply (p : Port) (tag : BitVec 6) (r : Reply) (s : State) : State :=
  evalIrq (s.onWin p fun w => { w with replies := sput w.replies tag.toNat r })

/-- The VER of a reply: the request's when accepted, 3 otherwise (R205, R209). -/
def replyVer (v : BitVec 4) : Nat := if v = 2 then 2 else 3

/-- A packet rejected through CMD_REJECT (R207, R219). -/
def cmdReject (p : Port) (tag : BitVec 6) (s : State) : State :=
  evalIrq (s.onWin p fun w =>
    { w with rejected := true, rejCount := satAdd 0xFFFF w.rejCount 1, rejTag := tag })

/-- What an opcode answers: a status and payload words; none while the reply waits. -/
abbrev Answer := Option (Nat × List Word)

/-- The end of a command: its context entry goes, and its reply is written unless the port was reset
while it ran (R219, R225). -/
def finish (e : Ctx) (st : Nat) (ws : List Word) (s : State) : State :=
  let s1 := s.onPort fun b =>
    { b with ctx := b.ctx.eraseP fun x => x.port == e.port && x.tag == e.tag && x.silent == e.silent }
  if e.silent then s1
  else putReply e.port e.tag { ver := e.ver, opcode := e.op, status := st, words := ws } s1

/-- The firmware of a target: 0 MP, 1 security, 2 Cobbler (R482). -/
def SecBlk.fw (c : SecBlk) (t : Nat) : Fw := if t = 0 then c.mp else if t = 1 then c.sec else c.isl

/-- A target's firmware changed. -/
def SecBlk.onFw (t : Nat) (f : Fw → Fw) (c : SecBlk) : SecBlk :=
  if t = 0 then { c with mp := f c.mp } else if t = 1 then { c with sec := f c.sec }
  else { c with isl := f c.isl }

/-- The release of the bank that is current (R198, R201). -/
def fwRel (f : Fw) : Nat := if f.cur then f.b.release else f.a.release

/-- What GEN_FW shows of a processor: its running bank, or while it is off what it showed last (R198). -/
def fwShown (run : Bool) (f : Fw) (held : Nat × Bool) : Nat × Bool := if run then (fwRel f, f.cur) else held

/-- What the partial object of an aborted inbound transfer leaves at its target (R213, R225). -/
def discardPartial (target fw : Nat) (s : State) : State :=
  if target = 1 then
    s.onLast fun l => { l with standby := [], standbyValid := false, standbyIncomplete := true }
  else if target = 2 then
    s.onSec (SecBlk.onFw fw fun x => { x with loading := false, complete := false, words := [] })
  else if target = 3 then s.onIsl fun i => { i with calLoaded := none }
  else s

/-- An open transfer is closed: an inbound partial object is discarded, an outbound one dropped
(R225); CMD_STAT.XFER_ABORTED sets (R216). -/
def closeTransfer (p : Port) (s : State) : State :=
  let w := s.win p
  if w.active then
    (s.whenB (!w.outbound) (discardPartial w.target w.fw)).onWin p fun w =>
      { w with active := false, outbound := false, target := 0, fw := 0, tag := 0, left := 0,
               inWords := [], outWords := [], xferAborted := true }
  else s

/-- Transfers of a target are closed on every port (R223). -/
def closeTarget (targets : List Nat) (s : State) : State :=
  allPorts.foldl (fun s p =>
    if (s.win p).active && targets.contains (s.win p).target then closeTransfer p s else s) s

/-- A master reset of a port (R225). -/
def portReset (p : Port) (s : State) : State :=
  let s1 := closeTransfer p s
  let s2 := s1.onPort fun b =>
    { b with ctx := (b.ctx.filter fun e => e.port != p || e.started).map fun e =>
                      if e.port == p then { e with silent := true } else e }
  evalIrq (s2.onWin p fun _ => {})

/-- Every command in flight and without a reply is answered ABORTED_RESET, LEN 0 (R226). -/
def abortAll (s : State) : State :=
  s.port.ctx.foldl (fun s e => finish e 8 [] s) s

/-! ## Mailboxes and locks under resets (R242, R243, R246) -/

/-- A channel is bound: two different masters, neither 0 (R232). -/
def Mbx.bound (c : Mbx) : Bool := c.sender != 0 && c.receiver != 0 && c.sender != c.receiver

/-- A message posted and not acknowledged is flushed by the receiver's reset (R242). -/
def mbxFlush (c : Mbx) : Mbx :=
  if c.doorbell then
    { c with data := Vector.replicate 16 0, doorbell := false, ackCode := 0xFE, ackValid := true }
  else c

/-- The sender's reset (R242). -/
def mbxSenderReset (c : Mbx) : Mbx :=
  { c with senderEpoch := c.senderEpoch + 1, ackValid := false, ackCode := 0 }

/-- A channel when masters reset together: receiver first (R243). -/
def mbxReset (ms : List Nat) (c : Mbx) : Mbx :=
  let c1 := if ms.contains c.receiver && c.receiver != 0 then mbxFlush c else c
  if ms.contains c1.sender && c1.sender != 0 then mbxSenderReset c1 else c1

/-- A reset of the owner frees its locks and marks them broken (R246). -/
def lockBreak (ms : List Nat) (l : LockSt) : LockSt :=
  if l.owner != 0 && ms.contains l.owner then { owner := 0, broken := true, brokenOwner := l.owner } else l

/-- Masters reset together: their mailboxes and locks (R242, R243, R246). -/
def mastersReset (ms : List Nat) (s : State) : State :=
  evalIrq (s.onMbx fun b => { b with ch := b.ch.map (mbxReset ms), locks := b.locks.map (lockBreak ms) })

/-! ## HS_STATE (R195) -/

/-- The PWR_STATE code of a power state. -/
def PState.code : PState → Nat
  | .s0 => 0
  | .s1 => 1
  | .s2 => 2
  | .s3 => 3

/-- The LAST_STATE code (R104). -/
def LastSt.code : LastSt → Nat
  | .empty => 0
  | .loaded => 1
  | .running => 2
  | .paused => 3
  | .faulted => 4

end Sys2Proof.Machine
end

