-- ==== Sys2Proof/Machine/Interp.lean ====
section
/-! DEFINITION. The command interpreter: the opcode table, the checks on a posted packet, the order in
which commands start, and running one (R204 to R221). -/

namespace Sys2Proof.Machine

/-- The opcodes of R229: code, number of parameter words that its chapter defines, and whether
Nolaris version 2 accepts it. -/
def opTable : List (Nat × Nat × Bool) :=
  [(0x000, 0, true), (0x001, 0, true), (0x002, 1, false), (0x003, 0, false), (0x100, 0, true),
   (0x101, 1, true), (0x102, 1, true), (0x103, 0, true), (0x104, 1, true), (0x200, 0, true),
   (0x201, 0, true), (0x202, 1, true), (0x210, 12, true), (0x211, 3, true), (0x212, 11, true),
   (0x213, 1, true)] ++
  [(0x220, 2, true), (0x221, 2, true), (0x222, 1, true), (0x230, 0, true), (0x231, 3, true),
   (0x240, 3, true), (0x241, 1, true), (0x250, 0, true), (0x251, 5, true), (0x300, 1, true),
   (0x301, 0, true), (0x302, 2, true), (0x303, 0, true), (0x304, 1, true), (0x305, 0, true),
   (0x306, 0, true)] ++
  [(0x307, 1, true), (0x308, 0, true), (0x400, 0, true), (0x401, 1, true), (0x402, 2, true),
   (0x410, 2, true), (0x411, 1, true), (0x412, 0, true), (0x500, 0, true), (0x501, 1, true),
   (0x502, 2, true), (0x503, 1, false), (0x510, 2, false), (0x600, 0, true), (0x601, 2, true),
   (0x602, 0, true)] ++
  [(0x603, 2, true), (0x700, 1, true), (0x701, 1, true), (0x702, 1, true), (0x703, 0, true),
   (0x800, 9, true), (0x801, 26, true), (0x802, 26, true), (0x803, 0, true), (0x900, 2, true),
   (0x901, 1, true), (0x902, 1, true), (0x903, 4, false), (0x904, 0, false), (0x905, 2, true)]

/-- The words and the version-2 mark of an opcode. -/
def opInfo (op : Nat) : Option (Nat × Bool) := (opTable.find? fun x => x.1 == op).map fun x => x.2

/-- The words that an opcode defines for the operation that word 1 names (R207 check 4). DEDUCED: where
a chapter gives words for one operation only, the others define word 1 alone; the operation is the one
that word 1 names after R208's clamping (notes/assumptions/13). -/
def opWords (op n : Nat) (ws : List Word) : Nat :=
  let w := wd ws 0
  if op = 0x220 then (if fld w 30 2 = 2 then 2 else 1)
  else if op = 0x800 then (if fld w 0 8 = 0 then 9 else 1)
  else if op = 0x801 then
    (if 2 ≤ fld w 28 4 ∨ (fld w 28 4 = 1 ∧ 3 ≤ fld w 0 4) then 26 else 1)
  else if op = 0x802 then (if fld w 28 4 ≤ 2 then 26 else 1)
  else n

/-- The family of an opcode (R229). -/
def famOf (op : Nat) : Nat := op / 256

/-- The packets that Cobbler executes (R221): PWR_STATE_SET only in S3 with a target of S2 or S0,
LOG_READ only of the island log. -/
def cobServed (s : State) (op : Nat) (ws : List Word) : Bool :=
  (0x200 ≤ op && op ≤ 0x251) || op == 0x600 || op == 0x602 || op == 0x603 ||
  (0x901 ≤ op && op ≤ 0x905) || (op == 0x601 && bitOf (wd ws 0) 31) ||
  (op == 0x101 && s.pwr.pstate == .s3 && (fld (wd ws 0) 0 2 == 0 || fld (wd ws 0) 0 2 == 2))

/-- The packets for which the MP needs the security processor's answer: the security opcodes and the
signature checks (R220, R486). -/
def secNeeded (op : Nat) : Bool := op == 0x301 || op == 0x701 || (0x800 ≤ op && op ≤ 0x803)

/-- The firmware packets that the security processor serves after a failed MP boot (R207, R498). -/
def secServed (s : State) (p : Port) (op : Nat) (ws : List Word) : Bool :=
  s.sec.bootFailed && s.sec.secRun && (p == .host || p == .tray) &&
  (op == 0x703 || ((op == 0x700 || op == 0x701 || op == 0x702) && fld (wd ws 0) 30 2 < 2))

/-- Who serves a packet (R207 check 5, R221, R498). -/
inductive Server where
  | mp | cobbler | security | off
deriving DecidableEq, Repr

/-- The server of a packet on a port. -/
def serverOf (s : State) (p : Port) (op : Nat) (ws : List Word) : Server :=
  if s.sec.mpRun then .mp
  else if secServed s p op ws then .security
  else if p == .tray && cobServed s op ws then .cobbler
  else .off

/-- The processor whose answer a packet needs runs (R220). -/
def peerUp (s : State) (op : Nat) (ws : List Word) : Bool :=
  if cobServed s op ws then s.isl.fwRun else if secNeeded op then s.sec.secRun else true

/-- A requester reaches its window: the tray and Cobbler in every power state, the others with the
Management domain, the debug port only while open (R185, R221, R504). -/
def portReach (s : State) (p : Port) : Bool :=
  match p with
  | .tray => !s.port.tbRst
  | .cobbler => s.isl.fwRun
  | .host => mgmtOn s && !s.port.perst
  | .security => mgmtOn s && s.sec.secRun
  | .debug => mgmtOn s && s.sec.debug != 0

/-- Checks 1 to 6 of R207 on a packet with a free tag: the failing reply, if one fails. -/
def postChecks (s : State) (p : Port) (ver : BitVec 4) (op len : Nat) (ws : List Word) : Answer :=
  if ver ≠ 2 ∧ ver ≠ 3 then some (5, [0x32#32])
  else if 31 < len then some (9, [])
  else
    match opInfo op with
    | none => some (4, [])
    | some (n, v2) =>
      if ver = 2 ∧ v2 = false then some (4, [])
      else if len < opWords op n ws then some (9, [])
      else
        match serverOf s p op ws with
        | .off => some (7, [])
        | .cobbler => none
        | _ => if 256 ≤ ctxInUse s then some (3, []) else none

/-- The words that a command keeps: those beyond the number its opcode defines are ignored (R207);
CMD_NOP keeps all. -/
def keptWords (op : Nat) (ws : List Word) : List Word :=
  if op = 0x003 then ws else ws.take ((opInfo op).getD (0, false)).1

/-- Posting a complete packet (R207, R211, R219): rejected, answered at once, or queued. -/
def postPacket (p : Port) (ver : BitVec 4) (op len : Nat) (tag : BitVec 6) (ws : List Word) (s : State) :
    State :=
  if inFlight s p tag then cmdReject p tag s
  else
    match postChecks s p ver op len ws with
    | some (st, pay) =>
      putReply p tag { ver := if ver = 2 then 2 else 3, opcode := op, status := st, words := pay } s
    | none =>
      s.onPort fun b => { b with ctx := b.ctx ++
        [{ port := p, tag := tag, ver := replyVer ver, op := op, words := keptWords op ws,
           inRam := serverOf s p op ws != .cobbler }] }

/-- A PWR_STATE_SET whose transition runs: a request that arrives meanwhile is answered BUSY, so it starts
(R261). DEDUCED (notes/assumptions/142). -/
def inTransition (x : Ctx) : Bool := x.op == 0x101 && x.started && !x.peer

/-- A command stands before another until it has started on the same port, or has completed in the same family;
the tray window hands Cobbler one packet at a time while the MP is off (R218, R220, R221). -/
def standsBefore (x e : Ctx) : Bool :=
  (x.port == e.port && !x.started && !x.silent) ||
    (!inTransition x && (famOf x.op == famOf e.op || (!x.inRam && !e.inRam)))

/-- A waiting command may start: nothing stands before it. CMD_ABORT acts when it reaches the interpreter
(R227; notes/assumptions/12). -/
def canStart : List Ctx → Ctx → Bool
  | [], _ => false
  | x :: t, e =>
    if x == e then true
    else if e.op == 0x002 then canStart t e
    else if standsBefore x e then false
    else canStart t e

/-- The command that an opcode's row runs: posted on the port with the tag, and not started, or waiting
for a processor's answer; else one of the same words that so waited when its port was reset, which completes
without a reply (R225; DEDUCED, notes/assumptions/139). -/
def waitingCtx (s : State) (r : Req) (op : Nat) : Option Ctx :=
  let mine (e : Ctx) : Bool := e.port == r.port && e.tag == r.tag && e.op == op
  match s.port.ctx.find? fun e => mine e && !e.silent && (!e.started || e.peer) with
  | some e => some e
  | none => s.port.ctx.find? fun e =>
      mine e && e.silent && e.peer && e.ver == replyVer r.ver && e.words == keptWords op r.words

/-- The context entries with one replaced. -/
def replaceCtx (e e' : Ctx) (l : List Ctx) : List Ctx := l.map fun x => if x == e then e' else x

/-- The domain of a command's server went off while it waited to start (R227). -/
def serverGone (s : State) (e : Ctx) : Bool := serverOf s e.port e.op e.words == .off

/-- Starting a waiting command: it is handed to its server; without the processor that must answer it
waits (R220); else its chapter's effect comes about and, unless its reply waits, the reply is written. -/
def startCtx (h : Ctx → State → State × Answer) (e : Ctx) (s : State) : State :=
  if serverGone s e then finish e 7 [] s
  else if !peerUp s e.op e.words then
    s.onPort fun b => { b with ctx := replaceCtx e { e with started := true, peer := true } b.ctx }
  else
    let e1 := { e with started := true, peer := false }
    let r := h e1 (s.onPort fun b => { b with ctx := replaceCtx e e1 b.ctx })
    match r.2 with
    | some (st, ws) => finish e1 st ws r.1
    | none => r.1

/-- The effect of an opcode's row: the packet is posted unless it waits already, and it runs if its turn
has come. -/
def runOp (op : Nat) (h : Ctx → State → State × Answer) (r : Req) (s : State) : State :=
  if !portReach s r.port then s
  else
    let s1 := match waitingCtx s r op with
      | some _ => s
      | none => postPacket r.port r.ver op r.words.length r.tag r.words s
    match waitingCtx s1 r op with
    | none => s1
    | some e => if canStart s1.port.ctx e then startCtx h e s1 else s1

/-- The meaning of an opcode's row. -/
def opcode (op : Nat) (h : Ctx → State → State × Answer) (r : Req) (s : State) : Out :=
  live s (runOp op h r s)

/-- An opening command's check (R223): the port's window is open, or the target is open elsewhere. -/
def windowBusy (s : State) (p : Port) (target fw : Nat) : Bool :=
  (s.win p).active ||
    allPorts.any fun q => (s.win q).active && (s.win q).target == target && (target != 2 || (s.win q).fw == fw)

/-- Opening the window for n words (R222); an outbound object of no words opens nothing. -/
def openWindow (p : Port) (tag : BitVec 6) (target fw : Nat) (out : Bool) (n : Nat) (ws : List Word)
    (s : State) : State :=
  if n = 0 then s
  else s.onWin p fun w => { w with active := true, outbound := out, target := target, fw := fw, tag := tag,
                                   left := n, inWords := [], outWords := ws, recs := [] }

end Sys2Proof.Machine
end

