-- ==== Sys2Proof/Machine/Ports.lean ====
section
/-! DEFINITION. The ports: GEN registers, identity opcodes, the command window and its bulk transfers,
and the master resets of the ports (R185 to R228). -/

namespace Sys2Proof.Machine

/-! ## GEN (R198 to R203) -/

/-- GEN_ID (R199). -/
def regGenId : Word := 0x4096B000#32

/-- GEN_IFVER (R200). -/
def regGenIfver : Word := 0x32312143#32

/-- GEN_FW (R198, R201). -/
def regGenFw (s : State) : Word :=
  let mp := fwShown s.sec.mpRun s.sec.mp s.sec.mpShown
  let sec := fwShown s.sec.secRun s.sec.sec s.sec.secShown
  mkW [(24, mp.1), (16, sec.1), (8, fwRel s.sec.isl), (2, bn s.sec.isl.cur), (1, bn sec.2), (0, bn mp.2)]

/-- Clusters with a free spare (R202). -/
def sparesFree (s : State) : Nat := (s.core.clusters.toList.filter fun c => c.spare.isSome).length

/-- Stacks neither retired nor failed (R202). -/
def stacksLeft (s : State) : Nat :=
  (s.mem.stk.toList.filter fun k => k.st != .retired && k.st != .failed).length

/-- The code of a lifecycle state (R202). -/
def Life.code : Life → Nat
  | .manufacture => 0
  | .develop => 1
  | .production => 2
  | .returned => 3

/-- GEN_CAP (R202). -/
def regGenCap (s : State) : Word :=
  mkW [(8, sparesFree s), (5, stacksLeft s), (0, s.sec.life.code)]

/-- GEN_SERIAL_LO and GEN_SERIAL_HI (R203). -/
def regSerialLo (s : State) : Word := w32 s.sec.serial.toNat
def regSerialHi (s : State) : Word := hi32 s.sec.serial.toNat

/-! ## Identity opcodes (R228) -/

/-- GET_IDENTITY. -/
def execGetIdentity (r : Req) (s : State) : Out :=
  opcode 0x000 (fun _ s =>
    (s, some (0, [regGenId, regGenIfver, regGenFw s, regGenCap s, regSerialLo s, regSerialHi s]))) r s

/-- GET_VERSIONS: word 3 is the VER of this request. -/
def execGetVersions (r : Req) (s : State) : Out :=
  opcode 0x001 (fun e s => (s, some (0, [regGenIfver, regGenFw s, w32 e.ver]))) r s

/-- The word of CMD_ABORT's reply. -/
def abortWord (xfer found : Bool) (tag : Nat) : Word := mkW [(9, bn xfer), (8, bn found), (0, tag)]

/-- What CMD_ABORT does (R228). DEDUCED: FOUND is 1 in a reply of BUSY (notes/assumptions/12). -/
def doAbort (e : Ctx) (s : State) : State × Answer :=
  let w := wd e.words 0
  let tag : BitVec 6 := w.setWidth 6
  if bitOf w 9 then
    let open_ := (s.win e.port).active
    (closeTransfer e.port s, some (0, [abortWord true open_ tag.toNat]))
  else
    match s.port.ctx.find? fun x => x.port == e.port && x.tag == tag && !x.silent && x.tag != e.tag with
    | none => (s, some (0, [abortWord false false tag.toNat]))
    | some x =>
      if x.started then (s, some (2, [abortWord false true tag.toNat]))
      else (finish x 8 [] s, some (0, [abortWord false true tag.toNat]))

/-- CMD_ABORT. -/
def execCmdAbort (r : Req) (s : State) : Out := opcode 0x002 doAbort r s

/-- CMD_NOP: echoes its words. -/
def execCmdNop (r : Req) (s : State) : Out := opcode 0x003 (fun e s => (s, some (0, e.words))) r s

/-! ## The command window (R210 to R224) -/

/-- The LEN and TAG of a request header (R204). -/
def hdrLen (h : Word) : Nat := fld h 8 8

/-- The packet whose last word has just been written is posted (R211). -/
def postIfComplete (p : Port) (s : State) : State :=
  match (s.win p).part with
  | [] => s
  | h :: ws =>
    if ws.length = hdrLen h then
      postPacket p (BitVec.ofNat 4 (fld h 28 4)) (fld h 16 12) (hdrLen h) (BitVec.ofNat 6 (fld h 0 6)) ws
        (s.onWin p fun w => { w with part := [] })
    else s

/-- A word written to CMD_REQ (R211). -/
def reqWord (p : Port) (w : Word) (s : State) : State :=
  postIfComplete p (s.onWin p fun x => { x with part := x.part ++ [w] })

/-- CMD_REQ_WRITE: the next request word; the packet posts with its LEN-th parameter word. -/
def execCmdReqWrite (p : Port) (w : Word) (s : State) : Out :=
  live s (if portReach s p then reqWord p w s else s)

/-- A complete inbound object at its target (R222). -/
def deliver (target fw : Nat) (ws : List Word) (s : State) : State :=
  if target = 1 then s.onLast fun l => { l with standby := ws, standbyIncomplete := false }
  else if target = 2 then
    s.onSec (SecBlk.onFw fw fun x => { x with loading := false, complete := true, words := ws })
  else if target = 3 then s.onIsl fun i => { i with calLoaded := some ws }
  else s

/-- The window returned to idle after its last word (R222). -/
def idleWindow (w : Window) : Window :=
  { w with active := false, outbound := false, target := 0, fw := 0, tag := 0, left := 0,
           inWords := [], outWords := [] }

/-- A word written to CMD_DATA_IN or the data alias (R210, R222): taken by an open inbound transfer,
else DATA_IDLE (R216). -/
def dataIn (p : Port) (x : Word) (s : State) : State :=
  let w := s.win p
  if w.active && !w.outbound then
    if w.left ≤ 1 then (deliver w.target w.fw (w.inWords ++ [x]) s).onWin p idleWindow
    else s.onWin p fun w => { w with inWords := w.inWords ++ [x], left := w.left - 1 }
  else s.onWin p fun w => { w with dataIdle := true }

/-- CMD_DATA_IN_WRITE. -/
def execCmdDataInWrite (p : Port) (w : Word) (s : State) : Out :=
  live s (if portReach s p then dataIn p w s else s)

/-- The word that a read of CMD_DATA_OUT returns (R212). -/
def dataOutWord (s : State) (p : Port) : Word :=
  let w := s.win p
  if w.active && w.outbound then wd w.outWords 0 else 0

/-- A read of CMD_DATA_OUT or the data alias: removes the word and counts it, else DATA_IDLE. -/
def dataOut (p : Port) (s : State) : State :=
  let w := s.win p
  if w.active && w.outbound then
    if w.left ≤ 1 then s.onWin p idleWindow
    else s.onWin p fun w => { w with outWords := w.outWords.drop 1, left := w.left - 1 }
  else s.onWin p fun w => { w with dataIdle := true }

/-- What the last access returned, and how it ended. -/
def answered (ws : List Word) (e : BusEnd) (s : State) : State :=
  s.onPort fun b => { b with rdata := ws, ended := e }

/-- CMD_DATA_OUT_READ. -/
def execCmdDataOutRead (p : Port) (s : State) : Out :=
  live s (if portReach s p then answered [dataOutWord s p] .ok (dataOut p s) else s)

/-- A write of 1 to DONE bits releases their tags and empties their slots (R215). -/
def releaseTags (p : Port) (hi : Bool) (mask : Word) (s : State) : State :=
  evalIrq (s.onWin p fun w =>
    { w with replies := w.replies.filter fun r =>
        !(decide (r.1 / 32 = hi.toNat) && mask.getLsbD (r.1 % 32)) })

/-- CMD_DONE_RELEASE. -/
def execCmdDoneRelease (p : Port) (hi : Bool) (mask : Word) (s : State) : Out :=
  live s (if portReach s p then releaseTags p hi mask s else s)

/-- A started command has no answer of the processor that it needs: it was handed over while that did not
run, or that stopped before it answered (R220). -/
def unanswered (s : State) (e : Ctx) : Bool := e.started && (e.peer || !peerUp s e.op e.words)

/-- CMD_PEER_TIMEOUT: a command that waits for Cobbler or the security processor has had no answer for
100 ms: TIMEOUT, and the request is cancelled; what it has brought about already stays (R220). After a reset
of its port it ends without a reply (R225). -/
def execCmdPeerTimeout (p : Port) (tag : BitVec 6) (s : State) : Out :=
  live s
    (match s.port.ctx.find? fun e => e.port == p && e.tag == tag && unanswered s e with
     | some e => finish e 0xA [] s
     | none => s)

/-! ## The command window's registers (R213 to R216) -/

/-- CMD_XFER. -/
def regXfer (w : Window) : Word :=
  mkW [(31, bn w.active), (30, bn w.outbound), (12, w.target), (0, w.tag.toNat)]

/-- CMD_STAT of a port. -/
def regCmdStat (s : State) (p : Port) : Word :=
  let w := s.win p
  mkW [(16, ctxInUse s), (8, tagsInFlight s p), (2, bn w.rejected), (1, bn w.dataIdle), (0, bn w.xferAborted)]

/-- CMD_REJECT. -/
def regReject (w : Window) : Word := mkW [(16, w.rejCount), (0, w.rejTag.toNat)]

/-- CMD_RSP word k: the reply of the selected tag, header first; words beyond its LEN and every word of
a tag not DONE read 0 (R205, R216). -/
def regRsp (w : Window) (k : Nat) : Word :=
  match sget w.replies w.rspSel.toNat with
  | none => 0
  | some r =>
    if k = 0 then mkW [(28, r.ver), (16, r.opcode), (8, r.words.length), (0, r.status)]
    else wd r.words (k - 1)

/-- A read of a window register at an offset from the window base (R210). -/
def regWindow (s : State) (p : Port) (off : Nat) : Word :=
  let w := s.win p
  if off = 0x00C then regXfer w
  else if off = 0x010 then w32 w.left
  else if off = 0x014 then (doneBits w).setWidth 32
  else if off = 0x018 then ((doneBits w) >>> 32).setWidth 32
  else if off = 0x01C then w.rspSel.setWidth 32
  else if off = 0x020 then regCmdStat s p
  else if off = 0x024 then regReject w
  else if 0x080 ≤ off ∧ off < 0x100 then regRsp w ((off - 0x080) / 4)
  else if off = 0x008 ∨ (0x200 ≤ off ∧ off < 0x400) then dataOutWord s p
  else 0

/-- What a read of a window register changes: CMD_DATA_OUT and its alias remove the word (R212). -/
def windowRead (s : State) (p : Port) (off : Nat) : State :=
  if off = 0x008 ∨ (0x200 ≤ off ∧ off < 0x400) then dataOut p s else s

/-- A write to a window register (R210 to R216, R255). -/
def windowWrite (p : Port) (off : Nat) (be : BitVec 4) (w : Word) (s : State) : State :=
  if off = 0x000 then (if woActs be then reqWord p w s else s)
  else if off = 0x004 ∨ (0x200 ≤ off ∧ off < 0x400) then (if woActs be then dataIn p w s else s)
  else if off = 0x014 then releaseTags p false (w &&& beMask be) s
  else if off = 0x018 then releaseTags p true (w &&& beMask be) s
  else if off = 0x01C then
    s.onWin p fun x => { x with rspSel := (wRW 0x3F#32 (x.rspSel.setWidth 32) w be).setWidth 6 }
  else if off = 0x020 then
    let m := w &&& beMask be
    evalIrq (s.onWin p fun x =>
      { x with rejected := x.rejected && !bitOf m 2, dataIdle := x.dataIdle && !bitOf m 1,
               xferAborted := x.xferAborted && !bitOf m 0 })
  else if off = 0x024 then
    s.onWin p fun x => { x with rejCount := fld (wRW 0xFFFF0000#32 (regReject x) w be) 16 16 }
  else s

/-! ## Master resets of the ports (R189, R225, R473) -/

/-- The MSI-X tables of the functions at reset: `both` functions with the PCIe port, else the control
function's (R186, R187; PRESUMED as the standard has it, notes/assumptions/138). -/
def msixReset (both : Bool) (s : State) : State :=
  s.onPort fun b =>
    { b with msix0 := Vector.replicate 4 {}, msix1 := if both then Vector.replicate 2 {} else b.msix1 }

/-- TRAY_PORT_RESET: the fall of `TB_RST#` ends any cycle without effect and resets the tray port and master 3;
while it is low `TB_CS#` is ignored, until it rises again (R193, R225). -/
def execTrayPortReset (low : Bool) (s : State) : Out :=
  live s
    (if low then
       mastersReset [3] (portReset .tray
         (s.onPort fun b => { b with bus := {}, ended := .ok, rdata := [], tbRst := true }))
     else s.onPort fun b => { b with tbRst := false })

/-- PERST_ASSERT: masters 1 and 2 and the host port reset (R186, R230, R473). -/
def execPerstAssert (s : State) : Out :=
  live s (mastersReset [1, 2] (portReset .host (msixReset true (s.onPort fun b => { b with perst := true }))))

/-- CONTROL_FLR: master 1 and the host port reset (R189, R225). -/
def execControlFlr (s : State) : Out :=
  live s (if mgmtOn s then mastersReset [1] (portReset .host (msixReset false s)) else s)

/-- DATA_FLR completes every outstanding aperture access and touches nothing else (R189): in this model
every aperture access is complete when its own step ends. -/
def execDataFlr (s : State) : Out := live s s

end Sys2Proof.Machine
end

