-- ==== Sys2Proof/Machine/RowObj.lean ====
section
/-! DEFINITION. The message objects of the row bus: identifiers, queueing, and the messages that the
stewardship sends through them (R404 to R407, R436). `b` is the channel: false A, true B. -/

namespace Sys2Proof.Machine

/-- A channel of the row bus. -/
def rowCh (s : State) (b : Bool) : RowCh := if b then s.row.b else s.row.a

/-- A message object of the row bus. -/
def objOf (s : State) (b : Bool) (m : Nat) : Obj := vget (rowCh s b).objs m {}

/-- An object of a channel changed. -/
def onObj (b : Bool) (m : Nat) (f : Obj → Obj) (s : State) : State :=
  s.onRow fun r => if b then { r with b := { r.b with objs := vmod r.b.objs m f } }
                   else { r with a := { r.a with objs := vmod r.a.objs m f } }

/-- A channel changed. -/
def onRowCh (b : Bool) (f : RowCh → RowCh) (s : State) : State :=
  s.onRow fun r => if b then { r with b := f r.b } else { r with a := f r.a }

/-- A ROW_EVENT bit sets (R426). -/
def rowEvent (b : Bool) (i : Nat) (s : State) : State := onRowCh b (fun c => { c with event := setBit c.event i }) s

/-- The identity that a channel uses: whether one is set, and its source (R399). -/
def rowId (s : State) (b : Bool) : Bool × Nat :=
  (rowCh s b).oldId.getD (s.lace.idValid, (if b then s.lace.rack else s.lace.slot) % 64)

/-- ROW_CTL.NODE (R399). -/
def rowNode (s : State) (b : Bool) : Nat := (rowId s b).2

/-- Listen-only (R398, R399). -/
def listenOnly (s : State) (b : Bool) : Bool := !(rowCh s b).locked || !(rowId s b).1

/-- The condition of the transceiver (R396). -/
def xcvrWanted (s : State) (b : Bool) : Bool :=
  (rowCh s b).en && (!b || s.stew.a.grantHeld || s.stew.b.grantHeld)

/-- The channel takes part in the bus: integrated, and not bus-off. -/
def rowLive (s : State) (b : Bool) : Bool :=
  (rowCh s b).xcvrOn && ((rowCh s b).st == .active || (rowCh s b).st == .passive)

/-- The identifier of an object; hardware gives those of objects 0 to 3 (R404, R412). -/
def objIdent (s : State) (b : Bool) (m : Nat) : Nat :=
  if m = 0 then rowNode s b
  else if m = 1 then 0x040 + rowNode s b
  else if m = 2 then 0x080
  else if m = 3 then (if (rowCh s b).sendVer = 1 then 0x1C0 else 0x180) + rowNode s b
  else (objOf s b m).ident

/-- The send length code of an object: FORECAST has 16 bytes in schema 2 and 8 in schema 1 (R412). -/
def objDlc (s : State) (b : Bool) (m : Nat) : Nat :=
  if m = 3 then (if (rowCh s b).sendVer = 1 then 8 else 10) else (objOf s b m).dlc

/-- The number of bytes of a length code (ISO 11898-1). -/
def dlcBytes (d : Nat) : Nat := if d ≤ 8 then d else [12, 16, 20, 24, 32, 48, 64].getD (d - 9) 64

/-- The object that is on the bus, if one is. -/
def onBusObj (c : RowCh) : Option Nat := (List.range 128).find? fun m => (vget c.objs m {}).tx == .onBus

/-- Before LACE_ID_SET changes the identity: a channel with a frame on the bus uses the old one until that frame has
ended. DEDUCED: between the commands of a channel's frames its bus is idle (R399, notes/assumptions/170). -/
def keepId (b : Bool) (s : State) : State :=
  onRowCh b (fun c => if (onBusObj c).isSome then { c with oldId := some (rowId s b) } else c) s

/-- The data that an instance carries: the data area as it stands, with the object's own counter in byte
SEQ_POS (R407). -/
def latchData (o : Obj) : List Byte :=
  if o.seqChk then o.data.set o.seqPos (BitVec.ofNat 8 (o.seqCnt + 1)) else o.data

/-- Queueing an object (R407). DEDUCED: an object queued during the transmission of its instance is
pending again afterwards with the newer data (notes/assumptions/48). -/
def queueOne (o : Obj) : Obj :=
  if !o.valid || !o.send then o
  else
    let d := latchData o
    let cnt := if o.seqChk then (o.seqCnt + 1) % 256 else o.seqCnt
    if o.tx == .onBus then { o with seqCnt := cnt, next := some d }
    else if o.tx == .pending then { o with seqCnt := cnt, latched := d }
    else { o with seqCnt := cnt, latched := d, next := none, tx := .pending, attempts := 0,
                  cancelMark := false, expireMark := false }

/-- Queueing object m of a channel. -/
def queueObj (b : Bool) (m : Nat) (s : State) : State := onObj b m queueOne s

/-- A hardware queueing of an object with data of its own (R404, R414, R416). -/
def queueHw (b : Bool) (m : Nat) (d : List Byte) (s : State) : State :=
  onObj b m (fun o => queueOne { o with data := padTo 64 d }) s

/-! ## Messages of the stewardship (R412, R436) -/

/-- The object of firmware for an identifier: the valid one, else the lowest invalid one of objects 4 to
127, configured for it. DESIGN CHOICE: the spec leaves to firmware which object serves which identifier
(notes/assumptions/50). -/
def ensureObj (b : Bool) (ident : Nat) (send : Bool) (dlc : Nat) (seqPos : Option Nat) (period : Nat)
    (s : State) : Option Nat × State :=
  let l := (List.range 128).drop 4
  match l.find? fun m => (objOf s b m).valid && (objOf s b m).send == send && (objOf s b m).ident == ident with
  | some m => (some m, s)
  | none =>
    match l.find? fun m => !(objOf s b m).valid with
    | none => (none, s)
    | some m =>
      (some m, onObj b m (fun _ =>
        { valid := true, send := send, dlc := dlc, seqChk := seqPos.isSome, seqPos := seqPos.getD 0,
          ident := ident, period := period }) s)

/-- A message of firmware queued: identifier, length code, place of SEQ, data. -/
def sendMsg (b : Bool) (ident dlc seqPos : Nat) (d : List Byte) (s : State) : State :=
  match ensureObj b ident true dlc (some seqPos) 0 s with
  | (some m, t) => queueHw b m d t
  | (none, t) => t

/-- The stewardship of a channel. -/
def stewOf (s : State) (b : Bool) : StewCh := if b then s.stew.b else s.stew.a

/-- The stewardship of a channel changed. -/
def onStewCh (b : Bool) (f : StewCh → StewCh) (s : State) : State :=
  s.onStew fun w => if b then { w with b := f w.b } else { w with a := f w.a }

/-- A STEWARD message queued (R436). -/
def sendSteward (b : Bool) (g : StewMsg) (s : State) : State :=
  sendMsg b (0x088 + g.type) 8 1
    ([BitVec.ofNat 8 (g.schema * 64), 0] ++ leBytes 2 g.term ++
      [BitVec.ofNat 8 g.holder, BitVec.ofNat 8 g.sender, BitVec.ofNat 8 g.reason, 0]) s

/-- The holder's RELEASE with a reason (R436). -/
def sendRelease (b : Bool) (reason : Nat) (s : State) : State :=
  let c := stewOf s b
  sendSteward b { type := 3, schema := (rowCh s b).sendVer, term := c.term, holder := c.holder,
                  sender := rowNode s b, reason := reason } s

/-- The holder declares itself faulty: RELEASE with REASON 0x03, and 60 s without eligibility (R438). -/
def selfDeclare (b : Bool) (s : State) : State :=
  if (stewOf s b).grantHeld then
    onStewCh b (fun c => { c with ineligible := addSorted c.ineligible (rowNode s b) }) (sendRelease b 3 s)
  else s

end Sys2Proof.Machine
end

