-- ==== Sys2Proof/Machine/Row.lean ====
section
/-! DEFINITION. The row bus: message objects, queueing and transmission, reception, error confinement,
bit timing, row time, its registers and opcodes (R396 to R433). `b` is the channel: false A, true B. -/

namespace Sys2Proof.Machine

/-- LEAK's bytes (R414). -/
def leakBytes (s : State) (b : Bool) : List Byte :=
  [BitVec.ofNat 8 (s.welt.tripSrc * 16 + bn s.welt.thermTrip * 8), (rowCh s b).leakCount]

/-- FAILSAFE's bytes (R414). -/
def failsafeBytes (s : State) (b : Bool) (forced : Bool) : List Byte :=
  [BitVec.ofNat 8 (bn forced * 128), (rowCh s b).failCount]

/-- Object 0 queued on A, and on B while its transceiver is on (R414). -/
def queueLeak (s : State) : State :=
  let t := queueHw false 0 (leakBytes s false) s
  t.whenB t.row.b.xcvrOn fun t => queueHw true 0 (leakBytes t true) t

/-- Object 1 queued on A, and on B while its transceiver is on (R414). -/
def queueFailsafe (forced : Bool) (s : State) : State :=
  let t := queueHw false 1 (failsafeBytes s false forced) s
  t.whenB t.row.b.xcvrOn fun t => queueHw true 1 (failsafeBytes t true forced) t

/-! ## The transceiver (R396) -/

/-- A RELEASE that waits goes out before the transceiver leaves (R451). -/
def isRelease (o : Obj) : Bool := o.send && o.ident == 0x08B && o.tx == .pending

/-- Every pending object of a channel is cancelled; a frame on the bus runs on and is not tried again. -/
def cancelPending (c : RowCh) : RowCh :=
  { c with objs := c.objs.map fun o =>
      if o.tx == .pending && !isRelease o then { o with tx := .cancelled, next := none }
      else if o.tx == .onBus then { o with cancelMark := true, next := none } else o }

/-- The controller off: standby, neither integrated nor counting (R396, R425). -/
def rowOff (c : RowCh) : RowCh :=
  { c with xcvrOn := false, leaving := false, st := .off, tecCnt := 0, recCnt := 0 }

/-- A frame is on the bus, or a RELEASE waits and the channel can send it. -/
def mustFinish (c : RowCh) : Bool :=
  (onBusObj c).isSome || ((c.st == .active || c.st == .passive) && c.objs.toList.any isRelease)

/-- The transceiver follows its condition: on loss pending objects go, and a frame on the bus completes
first; on gain the channel integrates (R396, R420). -/
def setXcvr (b : Bool) (s : State) : State :=
  if xcvrWanted s b then
    onRowCh b (fun c => if c.xcvrOn then { c with leaving := false }
                     else { c with xcvrOn := true, st := .off, tecCnt := 0, recCnt := 0 }) s
  else
    onRowCh b (fun c =>
      let d := cancelPending c
      if !c.xcvrOn then d
      else if mustFinish c then { d with leaving := true } else rowOff d) s

/-- After a frame: the identity as set is in force (R399), and a controller that was leaving goes to standby. -/
def leaveDone (b : Bool) (s : State) : State :=
  onRowCh b (fun c => if c.leaving && !mustFinish c then rowOff { c with oldId := none } else { c with oldId := none }) s

/-- BUS_INTEGRATION_COMPLETE: the channel takes part in the bus, error-active (R396, R410). -/
def execBusIntegrationComplete (b : Bool) (s : State) : Out :=
  let t := setXcvr b s
  live s (if xcvrWanted s b && (rowCh s b).st == .off && !(rowCh s b).leaving then
            onRowCh b (fun c => { c with st := .active, tecCnt := 0, recCnt := 0 }) t
          else s)

/-! ## Error confinement (R410, R411); PRESUMED: the counter steps of ISO 11898-1
(notes/assumptions/47) -/

/-- Three bus-offs within 10 s on a channel that a grant uses are a self-declared fault (R438). DEDUCED:
the rack grant uses both channels, the row grant channel B (notes/assumptions/51). -/
def busOffFault (b : Bool) (s : State) : State :=
  let l := (rowCh s b).busOffs
  if l.length = 3 ∧ l.all (fun x => youngerThan s 10000000 x) then
    (selfDeclare false s).whenB b (selfDeclare true)
  else s

/-- The state that the counters give, with its event and record on each entry. -/
def confine (b : Bool) (s : State) : State :=
  let c := rowCh s b
  if c.st == .busOff || c.st == .off then s
  else if 255 < c.tecCnt then
    busOffFault b (raise Ev.rowBusOff [] (rowEvent b 2 (onRowCh b (fun c =>
      { c with st := .busOff, busOffs := (s.log.elapsed :: c.busOffs).take 3 }) s)))
  else if 127 < c.tecCnt || 127 < c.recCnt then
    if c.st == .passive then s
    else raise Ev.rowErrPassive [] (rowEvent b 1 (onRowCh b (fun c => { c with st := .passive }) s))
  else if c.st == .active then s
  else raise Ev.rowBusOn [] (rowEvent b 3 (onRowCh b (fun c => { c with st := .active }) s))

/-- A frame was received without error: REC falls by one, or from error-passive to a value within 119 to
127 that ISO 11898-1 leaves open. -/
def recGood (b : Bool) (s : State) : State :=
  let c := rowCh s b
  if listenOnly s b then s
  else if c.recCnt = 0 then s
  else if c.recCnt ≤ 127 then confine b (onRowCh b (fun c => { c with recCnt := c.recCnt - 1 }) s)
  else confine b { onRowCh b (fun c => { c with recCnt := 119 + Config.recAfter s.free % 9 }) s with
                   free := s.free + 1 }

/-- RECEIVE_ERROR: REC rises by 1, and by 8 more when a dominant bit follows the error flag. -/
def execReceiveError (b dominantAfterFlag : Bool) (s : State) : Out :=
  live s <|
    if !rowLive s b then s
    else
      let t := onRowCh b (fun c => { c with goodFrames := 0 }) s
      if listenOnly s b then t
      else confine b (onRowCh b (fun c =>
        { c with recCnt := satAdd 255 c.recCnt (if dominantAfterFlag then 9 else 1) }) t)

/-- BUS_OFF_RECOVERY: error-active again with both counters at 0 (R411). -/
def execBusOffRecovery (b : Bool) (s : State) : Out :=
  live s <|
    if (rowCh s b).st == .busOff then
      raise Ev.rowBusOn [] (rowEvent b 3 (onRowCh b (fun c =>
        { c with st := .active, tecCnt := 0, recCnt := 0 }) s))
    else s

/-! ## Transmission (R407 to R409) -/

/-- Objects with a pending instance, lowest identifier first (R407). -/
def nextToSend (s : State) (b : Bool) : Option Nat :=
  let l := (List.range 128).filter fun m =>
    let o := objOf s b m
    o.tx == .pending && o.valid && o.send
  match l with
  | [] => none
  | m :: t => some (t.foldl (fun a x => if objIdent s b x < objIdent s b a then x else a) m)

/-- TRANSMISSION_START: the pending object of the lowest identifier is on the bus with its start of
frame captured, or it lost arbitration and stays pending. -/
def execTransmissionStart (b : Bool) (sof : Nat) (won : Bool) (s : State) : Out :=
  live s <|
    if !rowLive s b || listenOnly s b || (onBusObj (rowCh s b)).isSome || !won then s
    else
      match nextToSend s b with
      | none => s
      | some m => onObj b m (fun o => { o with tx := .onBus, ts := sof % 2 ^ 32 }) s

/-- The instance that follows one which ended: the newer data queued meanwhile, if any. -/
def afterInstance (tx : TxSt) (o : Obj) : Obj :=
  match o.next with
  | some d => { o with tx := .pending, latched := d, next := none, attempts := 0,
                       cancelMark := false, expireMark := false }
  | none => { o with tx := tx, cancelMark := false, expireMark := false }

/-- What the channel notes of a frame sent: the counts of R414 and the master's own REF (R416). -/
def sentNote (b : Bool) (m : Nat) (s : State) : State :=
  if m = 0 then onRowCh b (fun c => { c with leakCount := c.leakCount + 1 }) s
  else if m = 1 then onRowCh b (fun c => { c with failCount := c.failCount + 1 }) s
  else if m = 2 then onRowCh b (fun c => { c with prevSof := some (objOf s b 2).ts }) s
  else s

/-- ROW_FRAME_SENT: the instance is sent; the loop delay is in data quanta (R400, R401, R408). -/
def execRowFrameSent (b : Bool) (loopDelay : Nat) (s : State) : Out :=
  live s <|
    match onBusObj (rowCh s b) with
    | none => s
    | some m =>
      let dlc := objDlc s b m
      let t1 := onObj b m (fun o =>
        afterInstance .sent { o with lastDlc := dlc
                                     seq := if o.seqChk then (o.latched.getD o.seqPos 0).toNat else o.seq }) s
      let t2 := onRowCh b (fun c => { c with tdcv := min 127 loopDelay, tecCnt := c.tecCnt - 1 }) t1
      let t3 := t2.whenB (decide (127 < loopDelay + (rowCh s b).tdco)) (rowEvent b 8)
      leaveDone b (confine b (sentNote b m t3))

/-- How a failed attempt ends for its instance. -/
inductive FailEnd where
  | again | cancelled | expired | abandoned
deriving DecidableEq, Repr

/-- The end of an object's failed attempt (R408, R409, R420). -/
def failEnd (o : Obj) : FailEnd :=
  if o.cancelMark then .cancelled else if o.expireMark then .expired
  else if 16 ≤ o.attempts + 1 then .abandoned else .again

/-- TX_ATTEMPT_FAIL: an attempt ends in an error. TEC rises by 8 unless ISO 11898-1 exempts the error
(`exempt`: an acknowledgement error in error-passive, or a stuff error in arbitration). -/
def execTxAttemptFail (b exempt : Bool) (s : State) : Out :=
  live s <|
    match onBusObj (rowCh s b) with
    | none => s
    | some m =>
      let o := objOf s b m
      let t1 := onRowCh b (fun c => { c with tecCnt := if exempt then c.tecCnt else c.tecCnt + 8 }) s
      let t2 := match failEnd o with
        | .cancelled => onObj b m (fun o => afterInstance .cancelled { o with attempts := satAdd 16 o.attempts 1 }) t1
        | .expired =>
          rowEvent b 5 (onObj b m (fun o => afterInstance .expired { o with attempts := satAdd 16 o.attempts 1 }) t1)
        | .abandoned =>
          let logIt := match o.abandonedAt with
            | none => true
            | some x => !youngerThan s 60000000 x
          let u := rowEvent b 4 (onObj b m (fun o =>
            afterInstance .abandoned { o with attempts := satAdd 16 o.attempts 1
                                              abandonedAt := if logIt then some s.log.elapsed else o.abandonedAt }) t1)
          u.whenB logIt (raise Ev.rowAbandoned [])
        | .again => onObj b m (fun o =>
            { o with tx := .pending, attempts := o.attempts + 1
                     latched := o.next.getD o.latched, next := none }) t1
      leaveDone b (confine b t2)

/-- OBJECT_EXPIRED: WINDOW ticks have passed since queueing (R408). -/
def execObjectExpired (b : Bool) (m : Fin 128) (s : State) : Out :=
  let o := objOf s b m.val
  live s <|
    if o.tx == .pending then
      rowEvent b 5 (onObj b m.val (fun o => { o with tx := .expired, next := none }) s)
    else if o.tx == .onBus && !o.cancelMark then onObj b m.val (fun o => { o with expireMark := true }) s
    else s

/-- OBJECT_PERIODIC_QUEUE: the tick count is at PHASE of PERIOD (R407). -/
def execObjectPeriodicQueue (b : Bool) (m : Fin 128) (s : State) : Out :=
  let o := objOf s b m.val
  live s (if 0 < o.period && s.isl.tick.toNat % o.period == o.phase then queueObj b m.val s else s)

/-! ## Object control (R405, R407, R409, R421) -/

/-- Only Cobbler's writes take effect, and none in objects 0 to 3 (R421). -/
def objWritable (s : State) (ms : Master) (m : Nat) : Bool := masterReach s ms && ms == .cobbler && 4 ≤ m

/-- Cancelling (R409). -/
def cancelObj (b : Bool) (m : Nat) (s : State) : State :=
  onObj b m (fun o =>
    if o.tx == .pending then { o with tx := .cancelled, next := none }
    else if o.tx == .onBus && !o.expireMark then { o with cancelMark := true, next := none } else o) s

/-- Taking ownership of a receive object (R405). -/
def lockObj (b : Bool) (m : Nat) (s : State) : State :=
  onObj b m (fun o => if o.valid && !o.send then { o with owned := true } else o) s

/-- Releasing an object: the shadow moves into the data area (R405). -/
def ackObj (b : Bool) (m : Nat) (s : State) : State :=
  onObj b m (fun o =>
    match o.shadow with
    | some d => { o with owned := false, new := true, data := d, shadow := none }
    | none => { o with owned := false, new := false }) s

/-- REQ. -/
def execObjReq (ms : Master) (b : Bool) (m : Fin 128) (s : State) : Out :=
  live s (if objWritable s ms m.val then queueObj b m.val s else s)

/-- CANCEL. -/
def execObjCancel (ms : Master) (b : Bool) (m : Fin 128) (s : State) : Out :=
  live s (if objWritable s ms m.val then cancelObj b m.val s else s)

/-- LOCK. -/
def execObjLock (ms : Master) (b : Bool) (m : Fin 128) (s : State) : Out :=
  live s (if objWritable s ms m.val then lockObj b m.val s else s)

/-- ACK: any master's releases the object (R405). DEDUCED: R405 stands before R421's general rule on
writes (notes/assumptions/49). -/
def execObjAck (ms : Master) (b : Bool) (m : Fin 128) (s : State) : Out :=
  live s (if masterReach s ms && 4 ≤ m.val then ackObj b m.val s else s)

/-! ## Hardware sends (R414, R416) -/

/-- LEAK_REPEAT: every 100 ms while the trip is latched. -/
def execLeakRepeat (s : State) : Out := live s (if s.welt.leakTrip then queueLeak s else s)

/-- FAILSAFE_REPEAT: every 100 ms while Toecap's forced state stands. -/
def execFailsafeRepeat (s : State) : Out := live s (if s.isl.forced then queueFailsafe true s else s)

/-- The time master of a channel (R416). -/
def timeMaster (s : State) (b : Bool) : Bool := if b then s.row.masterB else s.row.masterA

/-- Row time at a start of frame, in 20 ns units of elapsed time, with the offset now in force. -/
def rowTimeAt (s : State) (sof : Nat) : Int := ((sof / 50 : Nat) : Int) + rowOffset s

/-- REF's bytes (R416). -/
def refBytes (s : State) (b : Bool) : List Byte :=
  let c := rowCh s b
  let prev := match c.prevSof with
    | none => 0xFFFFFFFFFFFF
    | some x => ofInt 48 (rowTimeAt s x)
  BitVec.ofNat 8 c.cycle :: BitVec.ofNat 8 s.row.epoch :: leBytes 6 prev

/-- REF_QUEUE: the master queues REF at each 10 ms of its elapsed time. -/
def execRefQueue (b : Bool) (s : State) : Out :=
  live s <|
    if timeMaster s b then
      onRowCh b (fun c => { c with cycle := (c.cycle + 1) % 64 }) (queueHw b 2 (refBytes s b) s)
    else s

/-- Taking up or giving up the time-master role: object 2 sends or receives REF (R404, R416). -/
def setMaster (b v : Bool) (s : State) : State :=
  if timeMaster s b = v then s
  else
    let t := s.onRow fun r => if b then { r with masterB := v } else { r with masterA := v }
    onObj b 2 (fun o => { o with send := v, tx := if o.tx == .pending then .cancelled else o.tx })
      (onRowCh b (fun c => { c with prevSof := none, cycle := 0 }) t)

/-! ## Row time (R417, R455) -/

/-- The slew's progress is taken into the offset. -/
def settle (s : State) : State :=
  let d := slewed s
  s.onRow fun r => { r with offset := r.offset + d, slew := r.slew - d, slewAt := s.log.elapsed }

/-- The epoch after a step (R455). -/
def nextEpoch (e : Nat) : Nat := if e = 0xFFFF then 1 else e + 1

/-- Row time steps by e: the epoch increments, STEP sets, ROW_TIME_STEP is logged with the change. -/
def rowStep (e : Int) (s : State) : State :=
  raise Ev.rowTimeStep [(6, ofInt 48 (satInt 48 e))]
    ((settle s).onRow fun r =>
      { r with offset := r.offset + e, epoch := nextEpoch r.epoch, step := true, slew := 0, rate := 0,
               good := 0 })

/-- Row time slews by e at a rate in 0.1 ppm; ROW_TSYNC shows `back` when it is absorbed. -/
def rowSlew (e : Int) (rate back : Nat) (s : State) : State :=
  (settle s).onRow fun r =>
    { r with slew := e, slewAt := s.log.elapsed, slewBack := back, tsync := 2
             rate := if e = 0 then 0 else if e < 0 then -(rate : Int) else (rate : Int) }

/-- What a REF with PREV_TIME and EPOCH does to row time: e counts from the start of frame captured for
the previous REF, with the offset now in force. The rate of the slew is a free value within R417's
bound (notes/assumptions/45). -/
def refDiscipline (b : Bool) (prev epoch sof : Nat) (s0 : State) : State :=
  let s := settle s0
  let c := rowCh s b
  let t :=
    match c.prevSof with
    | none => s
    | some x =>
      if prev = 0xFFFFFFFFFFFF then s
      else
        let e := sext 48 (ofInt 48 ((prev : Int) - rowTimeAt s x))
        if 1000 < e.natAbs ∨ c.refEpoch ≠ some epoch ∨ s.row.tsync = 0 then
          (rowStep e s).onRow fun r => { r with tsync := 2, slewBack := 2 }
        else
          let g := if e.natAbs ≤ 3 then s.row.good + 1 else 0
          let st := if 3 ≤ g then 1 else 2
          let u := rowSlew e (1 + Config.slewRate s.free % 10000) st { s with free := s.free + 1 }
          u.onRow fun r => { r with good := g, tsync := st }
  (onRowCh b (fun c => { c with prevSof := some sof, refEpoch := some epoch }) t).onRow fun r =>
    { r with src := b }

/-- A package disciplines its row time from a channel: not from one it masters, a rack steward from
channel B and the others from channel A (R416). -/
def disciplinedBy (s : State) (b : Bool) : Bool :=
  !timeMaster s b && (b == s.row.masterA)

/-! ## Reception (R405, R406, R398, R413) -/

/-- The receive object of an identifier (R404, R405). Object 3 is unused on channel B. -/
def recvObj (s : State) (b : Bool) (ident : Nat) : Option Nat :=
  (List.range 128).find? fun m =>
    let o := objOf s b m
    o.valid && !o.send && objIdent s b m == ident && !(b && m == 3)

/-- The data area that a frame leaves: its bytes, then bytes the spec does not state
(notes/assumptions/46). -/
def frameArea (n : Nat) (d : List Byte) : List Byte :=
  d.take 64 ++ (List.range (64 - d.length)).map fun i => Config.objTail n (d.length + i)

/-- What R406 makes of a sequence number. -/
inductive SeqJudge where
  | accept | late | duplicate
deriving DecidableEq, Repr

/-- The judgement of a frame with sequence number q by an object (R406). -/
def seqJudge (o : Obj) (q : Nat) : SeqJudge :=
  if !o.seqChk || !o.seen || o.stale then .accept
  else
    let d := (o.seq + 256 - q % 256) % 256
    if d = 0 then .duplicate else if d ≤ 127 then .late else .accept

/-- A frame into its object. -/
def frameToObj (b : Bool) (m : Nat) (f : CanFrame) (s0 : State) : State :=
  let area := frameArea s0.free f.data
  let s := { s0 with free := s0.free + 1 }
  let o := objOf s b m
  let q := (area.getD o.seqPos 0).toNat
  match seqJudge o q with
  | .late => rowEvent b 7 (onRowCh b (fun c => { c with lateDrop := satAdd 0xFFFFFFFF c.lateDrop 1 }) s)
  | .duplicate => s
  | .accept =>
    let lose := if o.owned then o.shadow.isSome else o.new
    let t := onObj b m (fun o =>
      let o1 := { o with lastDlc := f.dlc, ts := f.sof % 2 ^ 32, stale := false, seen := true
                         seq := if o.seqChk then q else o.seq, lost := o.lost || lose }
      if o.owned then { o1 with shadow := some area } else { o1 with data := area, new := true }) s
    t.whenB lose (rowEvent b 6)

/-- Whether the frame's FORECAST is heard: its source, schema and fields in W (R308, R412, R413). FREE VALUE: F2 of
schema 1, which F3 to F5 equal and the frame does not carry (notes/assumptions/171). -/
def hearForecast (b : Bool) (f : CanFrame) (s : State) : State :=
  if 0x180 ≤ f.ident ∧ f.ident < 0x200 then
    let v1 := decide (0x1C0 ≤ f.ident)
    let at_ (i : Nat) : Nat := leNat ((f.data.drop i).take 2) * (if b then 4 else 1)
    let f2 := Config.forecastF2 s.free % 65536 * (if b then 4 else 1)
    let fs := if v1 then [at_ 4, at_ 6] ++ List.replicate 4 f2
              else [at_ 4, at_ 6, at_ 8, at_ 10, at_ 12, at_ 14]
    let h : Heard := { at_ := s.log.elapsed, measW := at_ 2, fs := fs }
    { s with free := s.free + bn v1 }.onStew fun w =>
      let g (c : StewCh) : StewCh :=
        { c with heard := sput c.heard (f.ident % 64) h
                 schema1Forecast := if v1 then some s.log.elapsed else c.schema1Forecast }
      if b then { w with b := g w.b } else { w with a := g w.a }
  else s

/-- Whether the frame is a PLANT_STATUS: its node's value, applied command and term (R448). -/
def hearPlant (b : Bool) (f : CanFrame) (s : State) : State :=
  if 0x100 ≤ f.ident ∧ f.ident < 0x140 then
    let x := (s.log.elapsed, sext 16 (leNat (f.data.take 2)), leNat ((f.data.drop 4).take 2),
              leNat ((f.data.drop 6).take 2))
    s.onStew fun w =>
      if b then { w with b := { w.b with plants := sput w.b.plants (f.ident % 64) x } }
      else { w with a := { w.a with plants := sput w.a.plants (f.ident % 64) x } }
  else s

/-- The lock of R398: 8 consecutive error-free frames within ±0.1 %. -/
def lockCount (b : Bool) (f : CanFrame) (s : State) : State :=
  let n := if f.inBand then satAdd 8 (rowCh s b).goodFrames 1 else 0
  let t := onRowCh b (fun c => { c with goodFrames := n, locked := c.locked || decide (8 ≤ n) }) s
  t.whenB (decide (8 ≤ n) && !(rowCh s b).locked) (rowEvent b 0)

/-- An error-free frame arrives (R402, R405). -/
def receiveFrame (b : Bool) (f : CanFrame) (s : State) : State :=
  let t := recGood b (lockCount b f (onRowCh b (fun c => { c with lastFrame := some s.log.elapsed }) s))
  if f.extended then onRowCh b (fun c => { c with unmatched := satAdd 0xFFFFFFFF c.unmatched 1 }) t
  else
    let u := hearPlant b f (hearForecast b f t)
    match recvObj u b f.ident with
    | none => onRowCh b (fun c => { c with unmatched := satAdd 0xFFFFFFFF c.unmatched 1 }) u
    | some m => frameToObj b m f u

/-- A received REF and row time (R416, R417). -/
def receiveRef (b : Bool) (f : CanFrame) (s : State) : State :=
  if !f.extended && f.ident == 0x080 && 8 ≤ f.data.length && disciplinedBy s b then
    refDiscipline b (leNat ((f.data.drop 2).take 6)) ((f.data.getD 1 0).toNat) f.sof s
  else s

/-- ROW_FRAME_RECEIVE. -/
def execRowFrameReceive (b : Bool) (f : CanFrame) (s : State) : Out :=
  live s (if rowLive s b then receiveRef b f (receiveFrame b f s) else s)

/-- REF: a frame of identifier 0x080. -/
def execRef (b : Bool) (f : CanFrame) (s : State) : Out :=
  let g := { f with ident := 0x080, extended := false }
  live s (if rowLive s b then receiveRef b g (receiveFrame b g s) else s)

/-- OBJECT_STALE: no frame for WINDOW ticks (R405). -/
def execObjectStale (b : Bool) (m : Fin 128) (s : State) : Out :=
  live s (onObj b m.val (fun o => if o.valid && !o.send && 0 < o.window then { o with stale := true } else o) s)

/-- ROW_TIME_HOLDOVER: 30 ms without REF (R417). -/
def execRowTimeHoldover (s : State) : Out :=
  live s (if s.row.tsync = 0 then s else (settle s).onRow fun r => { r with tsync := 3, good := 0 })

/-- ROW_TIME_SLEW_END: the slew has absorbed its offset (R417). -/
def execRowTimeSlewEnd (s : State) : Out :=
  live s (if s.row.tsync = 3 then s else
    s.onRow fun r => { r with offset := r.offset + r.slew, slew := 0, slewAt := s.log.elapsed, rate := 0
                              tsync := if r.tsync = 2 then r.slewBack else r.tsync })

/-! ## Bit timing (R400, R401) -/

/-- Least n with n × k ≥ v. -/
def ceilDiv (v k : Nat) : Nat := (v + k - 1) / k

/-- The conditions of R400 met in the steps of R401, in quanta of 5 ns. -/
def fitTiming (c : RowCh) : RowCh :=
  let t1n := max c.tseg1N (ceilDiv 200 c.brpN - 1 - c.tseg2N)
  let nbt := (1 + t1n + c.tseg2N) * c.brpN
  let t1d := max c.tseg1D (ceilDiv 25 c.brpD - 1 - c.tseg2D)
  let room := nbt / c.brpD
  let t1e := if nbt < (1 + t1d + c.tseg2D) * c.brpD then max 1 (min t1d (room - 1 - c.tseg2D)) else t1d
  let t2e := if nbt < (1 + t1e + c.tseg2D) * c.brpD then max 1 (room - 2) else c.tseg2D
  { c with tseg1N := t1n, tseg1D := t1e, tseg2D := t2e, sjwD := min c.sjwD t2e }

/-- ROW_NBT taken (R423). -/
def putNbt (w : Word) (c : RowCh) : RowCh :=
  let brp := fld w 24 4 + 1
  let t2 := clampN 1 127 (fld w 8 7)
  { c with brpN := brp, tseg1N := clampN 2 255 (fld w 16 8), tseg2N := t2, sjwN := clampN 1 t2 (fld w 0 7)
           brpD := min c.brpD brp }

/-- ROW_DBT taken (R424). -/
def putDbt (w : Word) (c : RowCh) : RowCh :=
  let t2 := fld w 4 4 + 1
  { c with brpD := min c.brpN (fld w 24 4 + 1), tdco := fld w 16 7, tseg1D := clampN 1 63 (fld w 8 6)
           tseg2D := t2, sjwD := min t2 (fld w 0 4 + 1) }

/-! ## Registers (R421 to R432) -/

def regRowCtl (s : State) (b : Bool) : Word :=
  let c := rowCh s b
  mkW [(31, bn c.en), (30, bn c.xcvrOn), (29, bn c.locked), (28, bn (listenOnly s b)), (26, c.sendVer),
       (6, bn (rowId s b).1), (0, rowNode s b)]

def regRowNbt (c : RowCh) : Word := mkW [(24, c.brpN - 1), (16, c.tseg1N), (8, c.tseg2N), (0, c.sjwN)]

def regRowDbt (c : RowCh) : Word :=
  mkW [(24, c.brpD - 1), (16, c.tdco), (8, c.tseg1D), (4, c.tseg2D - 1), (0, c.sjwD - 1)]

/-- ROW_STAT.STATE (R425). -/
def CanSt.code : CanSt → Nat
  | .off => 0
  | .active => 1
  | .passive => 2
  | .busOff => 3

/-- ROW_STAT (R425). FREE VALUE: RECOV during a recovery (notes/assumptions/130). -/
def regRowStat (s : State) (b : Bool) : Word :=
  let c := rowCh s b
  mkW [(30, c.st.code), (23, if c.st == .busOff then Config.recoveries b s.log.elapsed % 128 else 0), (16, c.tdcv), (8, min 255 c.recCnt),
       (0, if c.st == .busOff then 255 else min 255 c.tecCnt)]

def regRowTsync (r : RowBlk) : Word :=
  mkW [(30, r.tsync), (29, bn r.masterA), (28, bn r.masterB), (27, bn r.src), (26, bn r.step),
       (16, r.epoch % 256), (0, ofInt 16 r.rate)]

/-- OBJ_STAT.TX (R431). -/
def TxSt.code : TxSt → Nat
  | .idle => 0
  | .pending => 1
  | .onBus => 2
  | .sent => 3
  | .expired => 4
  | .abandoned => 5
  | .cancelled => 6

/-- A register of object m at offset k of its block. -/
def regObj (s : State) (b : Bool) (m k : Nat) : Word :=
  let o := objOf s b m
  if k = 0x00 then
    mkW [(31, bn o.valid), (30, bn o.send), (24, objDlc s b m), (23, bn o.seqChk), (16, o.seqPos),
         (0, objIdent s b m)]
  else if k = 0x04 then mkW [(16, o.period), (0, o.phase)]
  else if k = 0x08 then mkW [(0, o.window)]
  else if k = 0x0C then
    mkW [(29, o.tx.code), (28, bn o.new), (27, bn o.lost), (26, bn o.owned), (25, bn o.stale),
         (24, bn o.shadow.isSome), (20, o.lastDlc), (15, o.attempts), (0, o.seq)]
  else if k = 0x10 then w32 o.ts
  else if 0x40 ≤ k ∧ k < 0x80 then wordAt o.data (k - 0x40)
  else 0

/-- A read of the ROW block, by offset in it. -/
def regRow (s : State) (off : Nat) : Word :=
  if off < 0x80 then
    let b := decide (0x40 ≤ off)
    let c := rowCh s b
    let k := off % 0x40
    if k = 0x00 then regRowCtl s b
    else if k = 0x04 then regRowNbt c
    else if k = 0x08 then regRowDbt c
    else if k = 0x0C then regRowStat s b
    else if k = 0x10 then c.event
    else if k = 0x14 then w32 c.lateDrop
    else if k = 0x18 then w32 c.unmatched
    else 0
  else if off = 0x80 then regRowTsync s.row
  else if 0x4000 ≤ off ∧ off < 0xC000 then
    regObj s (decide (0x8000 ≤ off)) ((off - 0x4000) % 0x4000 / 0x80) (off % 0x80)
  else 0

/-- The object as a write of OBJ_CFG leaves it; a second valid object of one identifier stays invalid
(R404, R429). -/
def putObjCfg (b : Bool) (m : Nat) (w : Word) (s : State) : State :=
  let id := fld w 0 11
  let taken := (List.range 128).any fun n =>
    n != m && (objOf s b n).valid && objIdent s b n == id && !(b && n == 3)
  let v := bitOf w 31 && !taken
  onObj b m (fun o =>
    { o with valid := v, send := bitOf w 30, dlc := min 14 (fld w 24 4), seqChk := bitOf w 23
             seqPos := min 47 (fld w 16 6), ident := id, seen := o.seen && o.valid && v }) s

/-- The bytes of a word replaced under byte enables, from byte i of an area on. -/
def putArea (i : Nat) (be : BitVec 4) (w : Word) (d : List Byte) : List Byte :=
  (List.range 4).foldl (fun d j => if be.getLsbD j then d.set (i + j) ((wordBytes w).getD j 0) else d) d

/-- Cobbler's write of a register of an object (R429 to R432). -/
def objWrite (b : Bool) (m k : Nat) (be : BitVec 4) (w : Word) (s : State) : State :=
  if k = 0x0C then
    (if bitOf w 27 && be.getLsbD 3 then onObj b m (fun o => { o with lost := false }) s else s)
  else if m < 4 then s
  else if k = 0x00 then putObjCfg b m (wRW 0xCFBF07FF#32 (regObj s b m 0x00) w be) s
  else if k = 0x04 then
    let x := wRW 0xFFFFFFFF#32 (regObj s b m 0x04) w be
    let p := fld x 16 16
    onObj b m (fun o => { o with period := p, phase := min (p - 1) (fld x 0 16) }) s
  else if k = 0x08 then
    let s1 := onObj b m (fun o => { o with window := fld (wRW 0xFFFF#32 (regObj s b m 0x08) w be) 0 16 }) s
    if be.getLsbD 3 then
      (((s1.whenB (bitOf w 31) (queueObj b m)).whenB (bitOf w 30) (cancelObj b m)).whenB
        (bitOf w 29) (lockObj b m)).whenB (bitOf w 28) (ackObj b m)
    else s1
  else if 0x40 ≤ k ∧ k < 0x80 then
    onObj b m (fun o => if o.send then { o with data := putArea (k - 0x40) be w o.data } else o) s
  else s

/-- The channel enabled or disabled (R396, R420); a holder of its grant sends RELEASE first (R451). -/
def setEn (b v : Bool) (s : State) : State :=
  let t := s.whenB ((rowCh s b).en && !v && (stewOf s b).grantHeld) (sendRelease b 6)
  setXcvr b (onRowCh b (fun c => { c with en := v }) t)

/-- Cobbler's write of a channel register (R421 to R427). -/
def chWrite (b : Bool) (k : Nat) (be : BitVec 4) (w : Word) (s : State) : State :=
  let c := rowCh s b
  if k = 0x00 then
    let x := wRW 0x8C000000#32 (regRowCtl s b) w be
    let v := fld x 26 2
    setEn b (bitOf x 31) (onRowCh b (fun c => { c with sendVer := if v = 1 then 1 else 2 }) s)
  else if k = 0x04 then
    (if c.en then s else onRowCh b (fun c => fitTiming (putNbt (wRW 0x0FFF7F7F#32 (regRowNbt c) w be) c)) s)
  else if k = 0x08 then
    (if c.en then s else onRowCh b (fun c => fitTiming (putDbt (wRW 0x0F7F3FFF#32 (regRowDbt c) w be) c)) s)
  else if k = 0x10 then onRowCh b (fun c => { c with event := wW1C 0x1FF#32 c.event w be }) s
  else if k = 0x14 then onRowCh b (fun c => { c with lateDrop := (wRW 0xFFFFFFFF#32 (w32 c.lateDrop) w be).toNat }) s
  else if k = 0x18 then onRowCh b (fun c => { c with unmatched := (wRW 0xFFFFFFFF#32 (w32 c.unmatched) w be).toNat }) s
  else s

/-- A write of the ROW block, by offset in it: only Cobbler's takes effect (R421), but for any master's
ACK (R405). -/
def rowWrite (m : Master) (off : Nat) (be : BitVec 4) (w : Word) (s : State) : State :=
  let isObj := 0x4000 ≤ off ∧ off < 0xC000
  let b := decide (0x8000 ≤ off)
  let o := (off - 0x4000) % 0x4000 / 0x80
  if m = .cobbler then
    (if off < 0x80 then chWrite (decide (0x40 ≤ off)) (off % 0x40) be w s
     else if off = 0x80 then
       s.onRow fun r => { r with step := r.step && !(bitOf w 26 && be.getLsbD 3) }
     else if isObj then objWrite b o (off % 0x80) be w s
     else s)
  else if isObj ∧ off % 0x80 = 0x08 ∧ bitOf w 28 ∧ be.getLsbD 3 ∧ 4 ≤ o then ackObj b o s
  else s

/-! ## Opcodes (R433) -/

/-- ROW_CONFIG's effect. -/
def doRowConfig (e : Ctx) (s : State) : State × Answer :=
  let w := wd e.words 0
  let b := bitOf w 29
  let en := bitOf w 28
  let v := clampN 1 2 (fld w 26 2)
  let w1 := mkW [(29, bn b), (28, bn en), (26, v)]
  let reply (st : Nat) (t : State) : State × Answer :=
    (t, some (st, [w1, regRowNbt (rowCh t b), regRowDbt (rowCh t b)]))
  if e.port == .host && !b && !en then reply 6 s
  else
    let free := !(rowCh s b).en || !en
    let s1 := onRowCh b (fun c => { c with sendVer := v }) s
    let s2 := s1.whenB free fun t => onRowCh b (fun c => fitTiming (putDbt (wd e.words 2) (putNbt (wd e.words 1) c))) t
    reply 0 (setEn b en s2)

/-- ROW_CONFIG. -/
def execRowConfig (r : Req) (s : State) : Out := opcode 0x240 doRowConfig r s

/-- ROW_STATUS's effect. -/
def doRowStatus (e : Ctx) (s : State) : State × Answer :=
  let w := wd e.words 0
  let b := bitOf w 0
  let c := rowCh s b
  (s, some (0, [regRowCtl s b, regRowNbt c, regRowDbt c, regRowStat s b, c.event, w32 c.lateDrop,
                w32 c.unmatched, regRowTsync s.row]))

/-- ROW_STATUS. -/
def execRowStatus (r : Req) (s : State) : Out := opcode 0x241 doRowStatus r s

end Sys2Proof.Machine
end

