-- ==== Sys2Proof/Machine/LogTime.lean ====
section
/-! DEFINITION. Elapsed time, row time and the event recorder: programming, copying and reading the two
logs, token buckets, the TIME and LOG registers and the log and time opcodes (R453 to R472). -/

namespace Sys2Proof.Machine

/-- Every open LOG_READ after an erase: records older than the oldest stored one read as all ones (R463, R466). -/
def readsErased (isl : Bool) (oldest : Nat) (s : State) : State :=
  allPorts.foldl (fun s p => s.onWin p fun w =>
    if w.active && w.target == 4 && w.recIsl == isl then
      let k := if isl then 8 else 16
      let first := k * w.recs.length - w.outWords.length
      { w with outWords := w.outWords.mapIdx fun i x => if w.recs.getD ((first + i) / k) oldest < oldest then 0xFFFFFFFF else x }
    else w) s

/-! ## The island log (R462, R463) -/

/-- The records of the current page. -/
def curPage (l : LogBlk) : List (Nat × IslRec) := if l.curB then l.pageB else l.pageA

/-- The stored island records in SEQ order: the other page's, then the current page's. -/
def islStored (l : LogBlk) : List (Nat × IslRec) := if l.curB then l.pageA ++ l.pageB else l.pageB ++ l.pageA

/-- The current page's records replaced. -/
def putCur (p : List (Nat × IslRec)) (l : LogBlk) : LogBlk :=
  if l.curB then { l with pageB := p } else { l with pageA := p }

/-- A full current page gives way to the other one (R463). -/
def turnPage (l : LogBlk) : LogBlk := if (curPage l).length < 2048 then l else { l with curB := !l.curB }

/-- The other page's erase begins when the current page holds 1,024 records (R463). -/
def startErase (l : LogBlk) : LogBlk :=
  if (curPage l).length = 1024 then
    (if l.curB then { l with pageErase := true, pageA := [] } else { l with pageErase := true, pageB := [] })
  else l

/-- The record at the head of the queue goes into the log. -/
def programHead (l : LogBlk) : LogBlk :=
  match l.islQueue with
  | [] => l
  | r :: q =>
    let l1 := turnPage l
    if (curPage l1).length = 0 ∧ l1.pageErase then l
    else startErase (putCur (curPage l1 ++ [(l1.islNext, r)]) { l1 with islQueue := q, islNext := l1.islNext + 1 })

/-- LOG_ISL_LOST is queued with the count when room returns (R462). -/
def reportLost (s : State) : State :=
  let n := s.log.islDropped
  if 0 < n ∧ s.log.islQueue.length + bn s.log.islOpen.isSome < 32 then
    islRaise Ev.logIslLost [(2, min 0xFFFF n)] (s.onLog fun l => { l with islDropped := 0 })
  else s


/-- OPEN_RECORD_CLOSE: 1 s after the record opened (R462). -/
def execOpenRecordClose (s : State) : Out := live s (s.onLog closeOpen)

/-- ISLAND_PAGE_ERASE_DONE (R463). -/
def execIslandPageEraseDone (s : State) : Out := live s (s.onLog fun l => { l with pageErase := false })

/-- The oldest stored island SEQ (R463); the next one where none is stored. -/
def oldestIsl (l : LogBlk) : Nat := ((islStored l).head?.map fun x => x.1).getD l.islNext

/-- ISLAND_RECORD_PROGRAMMED: none while a thermal trip is latched (R386, R462). -/
def execIslandRecordProgrammed (s : State) : Out :=
  live s
    (if s.welt.thermTrip then s
     else
       let t := reportLost (s.onLog programHead)
       readsErased true (oldestIsl t.log) t)

/-- An island record's 32 bytes (R459). -/
def islRecBytes (x : Nat × IslRec) : List Byte :=
  let b := leBytes 4 x.2.powerOn ++ leBytes 8 x.2.elapsed ++ leBytes 2 x.2.epoch ++ leBytes 2 x.2.code ++
    leBytes 4 x.1 ++ leBytes 2 x.2.rep ++ padTo 6 x.2.arg
  b ++ leBytes 4 (crc32c b).toNat

/-! ## The main log (R464, R465) -/

/-- The sector of a main SEQ: 1,024 records each. -/
def sectorOf (n : Nat) : Nat := n / 1024

/-- Starting the erase of the sector after the current one: its records, a turn of the ring old, go. -/
def startSectorErase (l : LogBlk) : LogBlk :=
  let cur := sectorOf (l.mainNext - 1)
  { l with sectorErase := true, nextErased := false
           mainLog := l.mainLog.filter fun x => decide (cur + 1 < sectorOf x.1 + 256) }

/-- A main record as it is written: its row time counts only in the epoch and the power-up in which it was raised
(R460). -/
def writtenMain (epoch powerOn : Nat) (r : MainRec) : MainRec :=
  if r.rowValid && r.epoch == epoch && r.powerOn == powerOn then r else { r with rowValid := false, rowTime := 0 }

/-- The oldest queued record goes into the main log, never into a sector that is not erased (R464). -/
def programMain (epoch : Nat) (l : LogBlk) : LogBlk :=
  match l.mainQueue with
  | [] => l
  | r :: q =>
    if l.mainNext % 1024 = 0 ∧ 0 < l.mainNext ∧ !l.nextErased then l
    else
      let l1 := { l with mainQueue := q, mainLog := l.mainLog ++ [(l.mainNext, writtenMain epoch l.powerOn.toNat r)], mainNext := l.mainNext + 1
                         nextErased := l.nextErased && decide (l.mainNext % 1024 ≠ 0) }
      if l1.mainNext % 1024 = 512 then startSectorErase l1 else l1

/-- The MP runs (R464). -/
def mpRuns (s : State) : Bool := mgmtOn s && s.sec.mpRun

/-- The oldest stored main SEQ (R469). -/
def oldestMain (l : LogBlk) : Nat := (l.mainLog.head?.map fun x => x.1).getD l.mainNext

/-- MAIN_RECORD_PROGRAMMED: none while a thermal trip is latched (R386). -/
def execMainRecordProgrammed (s : State) : Out :=
  live s
    (if mpRuns s && !s.welt.thermTrip then
       let t := s.onLog (programMain s.row.epoch)
       readsErased false (oldestMain t.log) t
     else s)

/-- MAIN_SECTOR_ERASE_DONE (R464). -/
def execMainSectorEraseDone (s : State) : Out :=
  live s (s.onLog fun l => if l.sectorErase then { l with sectorErase := false, nextErased := true } else l)

/-- The main-log copy of an island record (R460, R464). DEDUCED: it carries no frame time
(notes/assumptions/14). -/
def copyOf (s : State) (r : IslRec) : MainRec :=
  let rv := r.epoch != 0 && r.epoch == s.row.epoch && r.powerOn == s.log.powerOn.toNat
  { powerOn := r.powerOn, elapsed := r.elapsed, epoch := r.epoch, code := r.code
    rowTime := if rv then ofInt 64 ((r.elapsed : Int) + rowOffset s) else 0
    jobId := 0, f := 0, pass := 0, island := true, rowValid := rv, frameValid := false, rep := r.rep
    arg := padTo 20 r.arg }

/-- The next island record to copy. -/
def nextCopy (l : LogBlk) : Option (Nat × IslRec) := (islStored l).find? fun x => decide (l.islCopied ≤ x.1)

/-- ISLAND_RECORD_COPY: through the bucket of its code (R464, R465). -/
def execIslandRecordCopy (s : State) : Out :=
  live s <|
    if !mpRuns s then s
    else
      match nextCopy s.log with
      | none => s
      | some x => s.onLog fun l => { admitMain (copyOf s x.2) l with islCopied := x.1 + 1 }

/-- LOG_SUPPRESSED of a code (R461). -/
def suppressedRec (s : State) (code : Nat) (b : Bucket) : MainRec :=
  mkMain s Ev.logSuppressed [(2, code), (2, 0), (4, b.pending), (6, b.first), (6, b.last)]

/-- The pending count of a code reported and cleared (R465). -/
def flushBucket (s : State) (code : Nat) : State :=
  let b := bucketOf s.log code
  if b.pending = 0 then s
  else
    s.onLog fun l => enqueueMain (suppressedRec s code b)
      { l with buckets := sput l.buckets code { b with pending := 0, first := 0, last := 0 } }

/-- TOKEN_ADD: a token is added while the bucket holds fewer than 16, LOG_SUPPRESSED first (R465). -/
def execTokenAdd (code : Nat) (s : State) : Out :=
  live s <|
    if !mpRuns s || 16 ≤ (bucketOf s.log code).tokens then s
    else
      (flushBucket s code).onLog fun l =>
        let b := bucketOf l code
        { l with buckets := sput l.buckets code { b with tokens := b.tokens + 1 } }

/-- A main record's 64 bytes (R460). -/
def mainRecBytes (x : Nat × MainRec) : List Byte :=
  let r := x.2
  let b := leBytes 4 r.powerOn ++ leBytes 8 r.elapsed ++ leBytes 2 r.epoch ++ leBytes 2 r.code ++
    leBytes 4 x.1 ++ leBytes 8 r.rowTime ++ leBytes 2 r.jobId ++ leBytes 2 r.f ++ leBytes 4 r.pass ++
    [BitVec.ofNat 8 (evClass r.code), BitVec.ofNat 8 (bn r.island * 128 + bn r.rowValid * 64 + bn r.frameValid * 32)] ++
    leBytes 2 r.rep ++ padTo 20 r.arg
  b ++ leBytes 4 (crc32c b).toNat

/-! ## Registers (R468 to R470) -/

/-- A read of the TIME block by a master: its value. -/
def regTime (s : State) (m : Nat) (off : Nat) : Word :=
  if off = 0x00 then w32 s.log.elapsed
  else if off = 0x04 then vget s.log.capElapsed m 0
  else if off = 0x08 then w32 (rowTime s)
  else if off = 0x0C then vget s.log.capRow m 0
  else if off = 0x10 then s.log.powerOn
  else if off = 0x14 then w32 s.row.epoch
  else 0

/-- A read of a _LO register captures its high half for the master (R468). -/
def timeCapture (m : Nat) (row : Bool) (s : State) : State :=
  s.onLog fun l =>
    if row then { l with capRow := vmod l.capRow m fun _ => hi32 (rowTime s) }
    else { l with capElapsed := vmod l.capElapsed m fun _ => hi32 s.log.elapsed }

/-- What a read of the TIME block changes. -/
def timeRead (m : Nat) (off : Nat) (s : State) : State :=
  if off = 0x00 then timeCapture m false s else if off = 0x08 then timeCapture m true s else s

/-- TIME_LO_READ. -/
def execTimeLoRead (m : Master) (row : Bool) (s : State) : Out :=
  live s (if masterReach s m then
    answered [regTime s m.id (if row then 0x08 else 0x00)] .ok (timeCapture m.id row s) else s)

/-- A LOG_READ transfer is open. -/
def logOpen (s : State) : Bool := allPorts.any fun q => (s.win q).active && (s.win q).target == 4

def regLogStat (s : State) : Word :=
  mkW [(31, bn (logOpen s)), (30, bn (nextCopy s.log).isSome), (0, s.log.islLost)]

/-- A read of the LOG block. -/
def regLog (s : State) (off : Nat) : Word :=
  if off = 0x00 then regLogStat s
  else if off = 0x04 then w32 s.log.mainNext
  else if off = 0x08 then w32 (oldestMain s.log)
  else if off = 0x0C then w32 s.log.islNext
  else if off = 0x10 then w32 s.log.islCopied
  else if off = 0x14 then w32 s.log.suppr
  else 0

/-- A write of the LOG block: LOG_SUPPR_CNT (R470). -/
def logWrite (off : Nat) (be : BitVec 4) (w : Word) (s : State) : State :=
  if off = 0x14 then s.onLog fun l => { l with suppr := (wRW 0xFFFFFFFF#32 (w32 l.suppr) w be).toNat } else s

/-! ## Opcodes (R472) -/

/-- LOG_STATUS: while the MP does not run Cobbler answers, the main log's values as 0. -/
def doLogStatus (_ : Ctx) (s : State) : State × Answer :=
  let seven := w32 (oldestIsl s.log)
  if s.sec.mpRun then
    (s, some (0, [regLog s 0x00, regLog s 0x04, regLog s 0x08, regLog s 0x0C, regLog s 0x10, regLog s 0x14, seven]))
  else (s, some (0, [mkW [(0, s.log.islLost)], 0, 0, regLog s 0x0C, 0, 0, seven]))

/-- LOG_STATUS. -/
def execLogStatus (r : Req) (s : State) : Out := opcode 0x600 doLogStatus r s

/-- LOG_READ's effect (R466). -/
def doLogRead (e : Ctx) (s : State) : State × Answer :=
  let w := wd e.words 0
  let isl := bitOf w 31
  let n := clampN 1 (if isl then 4096 else 262144) (fld w 0 19)
  let start := (wd e.words 1).toNat
  let from_ := max start (if isl then oldestIsl s.log else oldestMain s.log)
  let recs : List (Nat × List Byte) :=
    if isl then (((islStored s.log).filter fun x => decide (from_ ≤ x.1)).take n).map fun x => (x.1, islRecBytes x)
    else ((s.log.mainLog.filter fun x => decide (from_ ≤ x.1)).take n).map fun x => (x.1, mainRecBytes x)
  if windowBusy s e.port 4 0 then (s, some (2, [mkW [(31, bn isl), (0, n)], wd e.words 1]))
  else
    let words := recs.flatMap fun x => bytesWords x.2
    let noted (w : Window) : Window := { w with recs := recs.map fun x => x.1, recIsl := isl }
    ((openWindow e.port e.tag 4 0 true words.length words s).onWin e.port noted,
     some (0, [mkW [(31, bn isl), (0, recs.length)], w32 from_]))

/-- LOG_READ. -/
def execLogRead (r : Req) (s : State) : Out := opcode 0x601 doLogRead r s

/-- TIME_GET. -/
def execTimeGet (r : Req) (s : State) : Out :=
  opcode 0x602 (fun _ s =>
    (s, some (0, [w32 s.log.elapsed, hi32 s.log.elapsed, w32 (rowTime s), hi32 (rowTime s), s.log.powerOn,
                  w32 s.row.epoch, regRowTsync s.row]))) r s

/-- TIME_SET's effect (R456). DEDUCED: ROW_TSYNC shows slewing while its slew runs and its former state
afterwards (notes/assumptions/52). -/
def doTimeSet (e : Ctx) (s : State) : State × Answer :=
  let w1 := wd e.words 0
  let w2 := wd e.words 1
  let reply (st : Nat) (t : State) : State × Answer := (t, some (st, [w1, w2, w32 t.row.epoch]))
  if s.row.tsync = 0 ∨ s.row.tsync = 3 ∨ timeMaster s s.row.src = true then
    let d := sext 64 (ofInt 64 ((of64 w1 w2 : Int) - (rowTime s : Int)))
    if d.natAbs ≤ 1000 ∧ s.row.epoch ≠ 0 then
      reply 0 (rowSlew d 10000 (if s.row.tsync = 2 then s.row.slewBack else s.row.tsync) s)
    else reply 0 (rowStep d s)
  else reply 6 s

/-- TIME_SET. -/
def execTimeSet (r : Req) (s : State) : Out := opcode 0x603 doTimeSet r s

end Sys2Proof.Machine
end

