-- ==== Sys2Proof/Machine/Fabric.lean ====
section
/-! DEFINITION. The fabric as the package sees it: the lane map, paths, the start of lane training and
a reset of Lace (R143 to R163, R177). -/

namespace Sys2Proof.Machine

/-! ## Identities, the lane map and light (R144 to R149) -/

/-- The package's fabric identity (R147). -/
def ownId (s : State) : Nat := s.lace.rack * 64 + s.lace.slot

/-- A lane. -/
def laneOf (s : State) (n : Nat) : Lane := vget s.lace.lanes n {}

/-- A lane changed. -/
def onLane (n : Nat) (f : Lane → Lane) (s : State) : State := s.onLace fun l => { l with lanes := vmod l.lanes n f }

/-- The Eyelet of a lane is fed by LS0 (R144). -/
def laneLs0 (n : Nat) : Bool := decide (n / 8 < 6) || n / 8 == 12 || n / 8 == 13

/-- The light of the input that feeds a lane. -/
def laneLight (s : State) (n : Nat) : Bool := if laneLs0 n then s.lace.light0 else s.lace.light1

/-- The rack that spine lane n reaches (R149). -/
def spineRack (s : State) (n : Nat) : Nat := (s.lace.rack + (n - 96) + 1) % 32

/-- A lane that the lane map leaves dark: lanes 95 and 127, and the spine lanes toward a position without a rack
(R148, R149). FREE VALUE: at which positions racks stand (notes/assumptions/39). -/
def laneDark (s : State) (n : Nat) : Bool :=
  n == 95 || decide (127 ≤ n) || (decide (96 ≤ n) && s.lace.idValid && !Config.rackPresent (spineRack s n))

/-- The endpoint that a lane reaches: whether it is a sled, and its identity (R148, R149). -/
def lanePeer (s : State) (n : Nat) : Option (Bool × Nat) :=
  if laneDark s n then none
  else if n < 63 then some (false, 64 * s.lace.rack + (s.lace.slot + n + 1) % 64)
  else if n < 95 then some (true, 64 * s.lace.rack + (n - 63) / 4)
  else some (false, 64 * spineRack s n + s.lace.slot)

/-! ## Paths (R150, R152) -/

/-- A lane carries traffic. -/
def laneActive (s : State) (n : Nat) : Bool := (laneOf s n).st == .active

/-- The first active lane of a list. -/
def firstActive (s : State) (l : List Nat) : Option Nat := l.find? fun n => laneActive s n

/-- The first lanes of the minimal path to an endpoint (R150): of a sled of the rack its four, else one. -/
def minimalLanes (s : State) (sled : Bool) (t : Nat) : List Nat :=
  let r := s.lace.rack
  let sl := s.lace.slot
  if t / 64 = r then
    if sled then (List.range 4).map fun i => 63 + 4 * (t % 8) + i
    else if t % 64 = sl then [] else [(t % 64 + 64 - sl - 1) % 64]
  else [96 + (t / 64 + 32 - r - 1) % 32]

/-- A lane that may be part of a relayed path: it is active at version 2.0 or later (R157). -/
def laneRelays (s : State) (n : Nat) : Bool := laneActive s n && decide (2 ≤ (laneOf s n).ver)

/-- The minimal path to an endpoint has one hop (R150). -/
def minimalDirect (s : State) (sled : Bool) (t : Nat) : Bool :=
  t / 64 == s.lace.rack || (!sled && t % 64 == s.lace.slot)

/-- The check of a relay before a path through it is used (R152). FREE VALUE: what the relay's package and lanes
are in (notes/assumptions/149). -/
def relayServes (s : State) (relay : Nat) (sled : Bool) (t : Nat) : Bool := Config.relayServes relay t sled s.log.elapsed

/-- The first lane of the minimal path, where it can be used (R150, R152, R157). -/
def minimalLane (s : State) (sled : Bool) (t : Nat) : Option Nat :=
  (firstActive s (minimalLanes s sled t)).filter fun n =>
    minimalDirect s sled t || (laneRelays s n && relayServes s (64 * (t / 64) + s.lace.slot) sled t)

/-- The first lane of spread path i to an endpoint: the rack lane to relay slot s + i (R152). -/
def spreadLane (i : Nat) : Nat := i - 1

/-- The relays of spread path i (R150). -/
def spreadRelays (s : State) (sled : Bool) (t i : Nat) : List Nat :=
  let sl := (s.lace.slot + i) % 64
  (64 * s.lace.rack + sl) ::
    (if t / 64 = s.lace.rack ∨ (sled = false ∧ t % 64 = sl) then [] else [64 * (t / 64) + sl])

/-- The lane of a spread path from index i on, at most 64 tries: a path with a relay that does not serve is
skipped, and a relay that is the target itself goes direct (R152). -/
def spreadFrom (s : State) (sled : Bool) (t : Nat) (first : Nat) : Option (Nat × Bool) :=
  let sameRack := t / 64 == s.lace.rack && !sled
  let order := (List.range 64).map fun j => (first + j) % 64
  order.findSome? fun i =>
    if i = 0 then
      if sameRack then none else (minimalLane s sled t).map fun n => (n, false)
    else if sameRack && (s.lace.slot + i) % 64 == t % 64 then
      if laneActive s (spreadLane i) then some (spreadLane i, false) else none
    else if laneRelays s (spreadLane i) && (spreadRelays s sled t i).all fun k => relayServes s k sled t then
      some (spreadLane i, true)
    else none

/-- A path for one transaction by its minimal lane, or by a spread path while that lane cannot be used
(R159). -/
def minimalPath (s : State) (sled : Bool) (t : Nat) : Option (Nat × Bool) :=
  match minimalLane s sled t with
  | some n => some (n, false)
  | none => spreadFrom s sled t 1

/-- A transaction of lane n goes by a spread path that avoids the lane. -/
def rerouteTxn (s : State) (n : Nat) (x : Txn) : Txn :=
  if x.lane = n then
    match spreadFrom s x.sled x.target 1 with
    | some (k, sp) => { x with lane := k, spread := sp }
    | none => x
  else x

/-! ## Symbols of the job tree (R164, R173, R174) -/

/-- The lane toward the leader of a job: direct within the leader's rack; else to the package of the own rack
that shares the leader's slot, and from there over the spine (R173). -/
def upLane (s : State) (leader : Nat) : Nat :=
  let sl := s.lace.slot
  if leader / 64 = s.lace.rack ∨ leader % 64 ≠ sl then (leader % 64 + 64 - sl - 1) % 64
  else 96 + (leader / 64 + 32 - s.lace.rack - 1) % 32

/-- The lane that carries a symbol for lane n: the lane itself, or a fallback path to its peer while it is not
active (R164). -/
def symbolLane (s : State) (n : Nat) : Option Nat :=
  if laneActive s n then some n
  else (lanePeer s n).bind fun p => (spreadFrom s p.1 p.2 1).map fun x => x.1

/-- A symbol accumulates a delay in its 24-bit field (R174). -/
def laterBy (k : Marker) (ps : Nat) : Marker := { k with acc := (k.acc + ps) % 0x1000000 }

/-- A symbol in flight on lane n goes again by a fallback path, with its time here in ACC (R164). -/
def resendSymbol (s : State) (n ps : Nat) (x : Marker × Nat) : Marker × Nat :=
  if x.2 = n then (laterBy x.1 ps, (symbolLane s n).getD n) else x

/-- The traffic in flight on a lane that is no longer active goes again by another path: transactions with the
same tag and generation, marker symbols and ready bits (R145, R159, R164). FREE VALUE: the time that the
symbols waited (notes/assumptions/150). -/
def rerouteLane (n : Nat) (s : State) : State :=
  { s with free := s.free + 1 }.onLace fun l =>
    { l with txns := l.txns.map (rerouteTxn s n)
             symbolsOut := l.symbolsOut.map (resendSymbol s n (Config.resendPs s.free))
             readyOut := l.readyOut.map fun (x : Nat × Bool × Nat) =>
               if x.2.2 = n then (x.1, x.2.1, (symbolLane s n).getD n) else x }

/-! ## Training (R153, R154) -/

/-- A lane trains fast: its record is of a training that ended at version 2.1 (R154, R157). -/
def hasRecord (l : Lane) : Bool := l.record.any fun r => r.2.2 == 3

/-- A lane that is to train begins: it is dark without an identity, without VDD_OPT, by the lane map, or
while retired here or at its peer; it waits while its light is missing (R147, R148, R177, R481). -/
def laneStart (full : Bool) (n : Nat) (s : State) : State :=
  onLane n (fun l =>
    if laneDark s n then { l with st := .unused, ver := 0 }
    else if s.lace.retired.getLsbD n then { l with st := .retired }
    else if !s.lace.idValid || !opticalOn s then { l with st := .off, ver := 0 }
    else if l.peerRetired && !full then l
    else
      { l with st := if laneLight s n then .training else .waitLight, ver := 0, fail := 0,
               fast := hasRecord l && !full, wantFull := full, peerRetired := false, replay := none }) s

/-- Every lane of a list begins to train. -/
def lanesStart (full : Bool) (l : List Nat) (s : State) : State := l.foldl (fun s n => laneStart full n s) s

/-- A lane goes down and trains again, its transactions going by other paths (R145, R159). -/
def laneDown (n fail : Nat) (s : State) : State :=
  let t := onLane n (fun l => { l with st := .down, fail := fail, ver := 0, fast := hasRecord l, wantFull := false, replay := none }) s
  rerouteLane n t

/-- The lanes that are active, as a mask. -/
def activeMask (s : State) : BitVec 128 :=
  (List.range 128).foldl (fun a n => if laneActive s n then a ||| (1#128 <<< n) else a) 0

/-- Lace's registers at their reset values; identity, stored records, repair record and light stay
(R177). -/
def laceCleared (l : LaceBlk) (out : BitVec 128) : LaceBlk :=
  { idValid := l.idValid, rack := l.rack, slot := l.slot, light0 := l.light0, light1 := l.light1,
    retired := l.retired, peerResetOut := out,
    lanes := l.lanes.map fun x => { record := x.record, peerRetired := x.peerRetired } }

/-- A reset of Lace: PEER_RESET on every active lane, registers reset, lanes trained again (R163,
R177). -/
def laceReset (s : State) : State :=
  lanesStart false (List.range 128) (s.onLace fun l => laceCleared l (activeMask s))

end Sys2Proof.Machine
end

