-- ==== Sys2Proof/Machine/Repair.lean ====
section
/-! DEFINITION. The cores' repair record: which physical core serves which logical core, waiting changes
and self-tests, and the registers that show them (R33 to R39, R69 to R72, R475 to R478). -/

namespace Sys2Proof.Machine

/-! ## Physical cores -/

/-- The key of a physical core (R33). -/
def coreKey (cl c : Nat) : Nat := 65 * cl + c

/-- What a physical core holds. -/
def coreRegs (s : State) (k : Nat) : CoreRegs := (sget s.core.regs k).getD {}

/-- A physical core's registers changed. -/
def onCoreRegs (k : Nat) (f : CoreRegs → CoreRegs) (s : State) : State :=
  s.onCore fun c => { c with regs := sput c.regs k (f ((sget c.regs k).getD {})) }

/-- A cluster's part of the repair record. -/
def clusterOf (s : State) (n : Nat) : ClusterRec := vget s.core.clusters n {}

/-- A cluster's part of the repair record changed. -/
def onCluster (n : Nat) (f : ClusterRec → ClusterRec) (s : State) : State :=
  s.onCore fun c => { c with clusters := vmod c.clusters n f }

/-- The physical core that serves logical core j; none when j is unserved (R33, R477). -/
def servedBy (r : ClusterRec) (j : Nat) : Option Nat :=
  match sget r.map j with
  | none => some j
  | some p => if p = 0x7F then none else some p

/-- The logical core that a physical core serves. -/
def serves (r : ClusterRec) (c : Nat) : Option Nat := (List.range 64).find? fun j => servedBy r j == some c

/-- CORE_STAT.LOGICAL (R69). DESIGN CHOICE: a released core under test, which serves no index and is not yet the
spare, reads as the spare does (notes/assumptions/157). -/
def logicalCode (r : ClusterRec) (c : Nat) : Nat :=
  if r.retired.contains c then 0xFF else (serves r c).getD 0xFE

/-- CORE_STAT.STATE (R69, R477). DESIGN CHOICE: a core that was fault pending and has become the spare stays fault
pending until a reset of its die (R39, notes/assumptions/152). -/
def coreState (s : State) (cl c : Nat) : Nat :=
  let r := clusterOf s cl
  let g := coreRegs s (coreKey cl c)
  if g.testRunning then 2
  else if r.retired.contains c then 4
  else if r.change.any fun x => servedBy r x.logical == some c then 3
  else if g.faultPending then 5
  else if (serves r c).isSome then 0 else 1

/-- CORE_STAT (R69). -/
def regCoreStat (s : State) (cl c : Nat) : Word :=
  mkW [(16, logicalCode (clusterOf s cl) c), (8, (coreRegs s (coreKey cl c)).testCode), (0, coreState s cl c)]

/-- CLUSTER_SPARE (R72). -/
def regClusterSpare (s : State) (cl : Nat) : Word :=
  let r := clusterOf s cl
  let j := serves r 64
  mkW [(16, r.retired.length), (15, bn j.isSome), (14, bn r.spare.isNone), (8, j.getD 0),
       (7, bn r.change.isSome), (0, r.retired.headD 0x7F)]

/-- Clusters with a change waiting, as 64 bits (R488). -/
def changesWaiting (s : State) : Nat :=
  (List.range 64).foldl (fun a n => if (clusterOf s n).change.isSome then a + 2 ^ n else a) 0

/-- A change of repair state goes to the copy that is not current, which becomes current (R475). -/
def repairWrite (s : State) : State :=
  s.onSec fun c => if c.repairCurB then { c with repairA := true, repairCurB := false }
                   else { c with repairB := true, repairCurB := true }

/-! ## SRAM of a core (R111, R113) -/

/-- The SRAM address of a byte of core k. -/
def sramAt (k a : Nat) : Nat := 0x60000 * k + a

/-- An SRAM byte address belongs to core k. -/
def inSram (k x : Nat) : Bool := decide (x / 0x60000 = k)

/-- The words of core k that are poisoned. -/
def corePoison (s : State) (k : Nat) : List Nat := s.core.sramPoison.filter fun w => inSram k (8 * w)

/-- Core k's SRAM zeroed. -/
def zeroSram (k : Nat) (s : State) : State :=
  s.onCore fun c => { c with sram := Mem.clear c.sram (sramAt k 0) (sramAt (k + 1) 0),
                             sramPoison := c.sramPoison.filter fun w => !inSram k (8 * w) }

/-- The bytes of core k stored in core d as well. -/
def copyBytes (k d : Nat) (m : Mem) : Mem :=
  (m.filter fun x => inSram k x.1).foldl (fun a x => a.set (x.1 - sramAt k 0 + sramAt d 0) x.2) m

/-- Core k's SRAM copied to core d, wholly or, with an unreadable word, not at all (R35): whether it was
copied. DEDUCED: a poisoned word is one that does not read (notes/assumptions/53). -/
def copySram (k d : Nat) (s : State) : State × Bool :=
  let t := zeroSram d s
  if (corePoison s k).isEmpty then
    (t.onCore fun c => { c with sram := copyBytes k d c.sram }, true)
  else (t, false)

/-! ## Changes (R35, R36, R477, R478) -/

/-- A core is retired: out of the map, in the list, logged (R478). -/
def retireCore (cl c : Nat) (s : State) : State :=
  raise Ev.coreRetired [(1, cl), (1, c)]
    (repairWrite (onCluster cl (fun r =>
      { r with retired := c :: r.retired, spare := if r.spare = some c then none else r.spare }) s))

/-- A self-test starts on a physical core (R36). -/
def startTest (cl c : Nat) (deferred : Bool) (s : State) : State :=
  onCoreRegs (coreKey cl c) (fun g => { g with testRunning := true, testDeferred := deferred }) s

/-- The free spare takes a logical index over, with the SRAM of the old core (R35). -/
def takeOverIndex (cl j new : Nat) (old : Option Nat) (s : State) : State :=
  let s1 := onCluster cl (fun r =>
    { r with map := if new = j then sdel r.map j else sput r.map j new, spare := none }) s
  match old with
  | none => s1
  | some o =>
    let (s2, ok) := copySram (coreKey cl o) (coreKey cl new) s1
    if ok then s2 else raise Ev.coreSwapSramLost [(1, cl), (1, j), (1, o), (1, new)] s2

/-- A change is made (R36, R477): SWAP tests the released core, SWAP_RETIRE retires it, RETIRE leaves the
index unserved. -/
def makeChange (cl : Nat) (x : CoreChange) (s : State) : State :=
  let r := clusterOf s cl
  let old := servedBy r x.logical
  let s1 := onCluster cl (fun r => { r with change := none }) s
  let note (new : Nat) (t : State) : State :=
    raise Ev.coreSwapDone [(1, cl), (1, x.logical), (1, old.getD 0x7F), (1, new)] t
  if x.action = 2 then
    let s2 := repairWrite (onCluster cl (fun r => { r with map := sput r.map x.logical 0x7F }) s1)
    note 0x7F (match old with
               | none => s2
               | some o => retireCore cl o s2)
  else
    match r.spare with
    | none => s1
    | some p =>
      let s2 := note p (repairWrite (takeOverIndex cl x.logical p old s1))
      match old with
      | none => s2
      | some o => if x.action = 1 then retireCore cl o s2 else startTest cl o x.test s2

/-- Every waiting change is made: at a Last switch, and by a change that counts as one (R36, R477).
DEDUCED: such a change also makes the exchanges that wait in other clusters (notes/assumptions/54). -/
def makeChanges (s : State) : State :=
  (List.range 64).foldl (fun s n =>
    match (clusterOf s n).change with
    | none => s
    | some x => makeChange n x s) s

/-- The self-tests that wait for a Last unload start (R36). -/
def startDeferredTests (s : State) : State :=
  (List.range 64).foldl (fun s n =>
    let l := (clusterOf s n).deferred
    l.foldl (fun s x => startTest n x.1 true s) (onCluster n (fun r => { r with deferred := [] }) s)) s

/-- The end of a self-test (R36, R477): a released core that passes becomes the spare, one that fails is
retired; a spare that fails is retired too; a retired core that passes stays retired. After a lost repair
record every core that fails is retired (R476). -/
def endTest (cl c code : Nat) (s : State) : State :=
  let g := coreRegs s (coreKey cl c)
  let s1 := onCoreRegs (coreKey cl c) (fun g =>
    { g with testRunning := false, testDeferred := false, testCode := code }) s
  let s2 := if g.testDeferred then raise Ev.coreSelftestResult [(1, cl), (1, c), (1, code)] s1 else s1
  let r := clusterOf s2 cl
  if s.core.recordLost && code != 0 && !r.retired.contains c then
    retireCore cl c (onCluster cl (fun r => { r with map := match serves r c with
                                                            | some j => sput r.map j 0x7F
                                                            | none => r.map }) s2)
  else if r.retired.contains c || (serves r c).isSome then s2
  else if code = 0 then
    if r.spare = some c then s2 else repairWrite (onCluster cl (fun r => { r with spare := some c }) s2)
  else retireCore cl c s2

end Sys2Proof.Machine
end

