-- ==== Sys2Proof/Machine/Reset.lean ====
section
/-! DEFINITION. The resets of R473 and what they reach: the Last, compute dies, Lace, the MP, the
security processor, the island processor, and the loss of a power domain. -/

namespace Sys2Proof.Machine

/-! ## The Last -/

/-- LAST_STATE.STATE changes: WARM clears on the way out of LOADED (R280), and a change to FAULTED is a
device wake cause (R269). -/
def setLast (st : LastSt) (s : State) : State :=
  let s1 := s.onLast fun l => { l with st := st }
  let s2 := s1.whenB (s.last.st == .loaded && st != .loaded) fun t => t.onPwr fun p => { p with warm := false }
  s2.whenB (st == .faulted && s.last.st != .faulted) (deviceWake 5)

/-- An event of the Last, with the BUILD word of the image concerned after the values that its rule names (R78).
DESIGN CHOICE: which events carry it, and where (notes/assumptions/148). -/
def raiseLast (code : Nat) (args : List (Nat × Nat)) (img : List Word) (s : State) : State :=
  raise code (args ++ [(4, (wd img 15).toNat)]) s

/-- What the Lace engines hold of a frame: collectives under way and contributions that came early (R171). -/
def collsDropped (s : State) : State := s.onLace fun l => { l with colls := [], early := [] }

/-- The package faults (R99): FAULTED, LAST_EVENT.FAULT and the record; what was armed or pending goes. -/
def lastFault (s : State) : State :=
  raiseLast Ev.lastFrameFault [] s.last.active
    ((setLast .faulted (collsDropped s)).onLast fun l =>
      { l with armed := none, inSwitch := false, startPending := false, pausePending := false,
               resumePending := false, pausedBeforeFrame0 := false, jobSet := false, markerOut := none, markerIn := none, switched := false,
               ready := false, shedSent := false, chains := [], collIndex := 0,
               event := setBit l.event 2 })

/-- A compute-die reset takes the Last away: transfers into a slot close, both slots are invalid, the package has
no role in a job and the sequencer's registers take their reset values (R109, R223); a RUNNING one is logged
(R100). -/
def lastReset (s : State) : State :=
  let s1 := (setLast .empty (closeTarget [1] (collsDropped s))).onLast fun _ => {}
  let s2 := s1.onIsl fun i => { i with ahead := [] }
  s2.whenB (s.last.st == .running) (raiseLast Ev.lastFrameFault [] s.last.active)

/-! ## Stacks and windows (R131, R479, R480) -/

/-- The first byte of a stack, its size, and where its system region would begin (R115, R116). -/
def hbmBase (h : Nat) : Nat := h * 0x1000000000
def stackBytes : Nat := 48000000000
def sysStart : Nat := 0xB0D05E000

/-- A stack changed; a stack of the state. -/
def onStack (h : Nat) (f : Stack → Stack) (s : State) : State := s.onMem fun m => { m with stk := vmod m.stk h f }
def stackOf (s : State) (h : Nat) : Stack := vget s.mem.stk h {}

/-- A window exported on a stack overlaps [lo, hi) of it (R125). -/
def winOverlaps (w : PoolWin) (h lo hi : Nat) : Bool :=
  w.valid && w.stack == h && decide (w.base * 0x4000000 < hi ∧ lo < (w.base + w.size) * 0x4000000)

/-- The contents of [lo, hi) of a stack are lost. -/
def wipeHbm (h lo hi : Nat) (m : MemBlk) : MemBlk :=
  { m with hbm := Mem.clear m.hbm (hbmBase h + lo) (hbmBase h + hi)
           hbmPoison := m.hbmPoison.filter fun u =>
             32 * u < hbmBase h + lo || hbmBase h + hi ≤ 32 * u }

/-- Windows that overlap [lo, hi) of a stack are closed. -/
def closeWins (h lo hi : Nat) (m : MemBlk) : MemBlk :=
  { m with wins := m.wins.map fun w => if winOverlaps w h lo hi then {} else w }

/-- A stack is in service, or will be: neither retired nor failed. -/
def stackUsable (k : Stack) : Bool := k.st != .retired && k.st != .failed && !k.recRetired

/-- The lowest-numbered usable stack but one. -/
def lowestStack (s : State) (but : Nat) : Option Nat :=
  (List.range 6).find? fun h => h != but && stackUsable (stackOf s h)

/-- The system region moves to the lowest-numbered stack in service (R480). -/
def moveSystem (h : Nat) (s : State) : State :=
  match lowestStack s h with
  | none => s
  | some k =>
    let s1 := s.onMem fun m =>
      { closeWins k sysStart stackBytes (wipeHbm k sysStart stackBytes m) with systemStack := k }
    raise Ev.systemRegionMoved [(1, h), (1, k)]
      (repairWrite (onStack h (fun x => { x with system := false }) (onStack k (fun x => { x with system := true }) s1)))

/-- The retirement of a stack takes effect (R475, R479, R480). -/
def retireStack (h : Nat) (s : State) : State :=
  let s1 := repairWrite (onStack h (fun x =>
    { x with st := .retired, recRetired := true, retireWaiting := false, temp := 0, refresh2x := false }) s)
  let s2 := s1.onMem fun m => closeWins h 0 stackBytes (wipeHbm h 0 stackBytes m)
  let s3 := if s.mem.systemStack = h then moveSystem h s2 else s2
  raise Ev.hbmRetired [(1, h)] s3

/-- Waiting retirements take effect: at a switch, an unload of the active slot, or a compute-die reset
(R479, R490). -/
def retireWaiting (s : State) : State :=
  (List.range 6).foldl (fun s h => if (stackOf s h).retireWaiting then retireStack h s else s) s

/-- The tags of the spill engine are free again, what it had issued is void and what it was to issue is gone
(R131, R138): a late reply finds another generation. -/
def spillReset (l : LaceBlk) : LaceBlk :=
  { l with gens := (l.txns.filter fun x => x.holder == .spill).foldl
             (fun g x => sput g x.tag (((sget g x.tag).getD 0 + 1) % 8)) l.gens
           txns := l.txns.filter fun x => x.holder != .spill
           waiting := l.waiting.filter fun x => x.holder != .spill }

/-- The MEM registers at their reset values and every window closed; stack states and contents stay
(R131). -/
def memReset (s : State) : State :=
  (s.onLace spillReset).onMem fun m =>
    { m with
      stk := m.stk.map fun k => { k with ue := 0, ce := 0, inflightPeak := 0, bpCnt := 0 }
      scrubEn := true, passHours := 0x18, event := 0, tagsPeak := 0
      wins := Vector.replicate 16 {}, sramUe := Vector.replicate 64 0, sramCe := Vector.replicate 64 0
      rereads := [] }

/-! ## Compute dies (R73, R114, R473) -/

/-- The die of a core key; a mask of dies chooses it. -/
def dieChosen (mask key : Nat) : Bool := mask.testBit (key / 65 / 16)

/-- The cores, accumulators, registers and SRAM of the chosen dies at reset. -/
def diesCleared (mask : Nat) (c : CoreBlk) : CoreBlk :=
  { c with
    regs := c.regs.filter fun x => !dieChosen mask x.1
    accs := c.accs.filter fun x => !dieChosen mask (x.1 / 1024)
    sregs := c.sregs.filter fun x => !dieChosen mask (x.1 / 32)
    sregPoison := c.sregPoison.filter fun x => !dieChosen mask (x / 32)
    sram := c.sram.filter fun x => !dieChosen mask (x.1 / 0x60000)
    sramPoison := c.sramPoison.filter fun w => !dieChosen mask (8 * w / 0x60000) }

/-- Self-tests that the reset of a die cut off leave their cores free for service again: a released core
goes back to being the spare, untested (R36, R73). DESIGN CHOICE: the spec does not say what becomes of a
released core whose test is cut off (notes/assumptions/56). -/
def testsCut (mask : Nat) (s : State) : State :=
  (s.core.regs.filter fun x => x.2.testRunning && dieChosen mask x.1).foldl (fun s x =>
    let cl := x.1 / 65
    let c := x.1 % 65
    let r := clusterOf s cl
    if r.retired.contains c || (serves r c).isSome || r.spare.isSome then s
    else repairWrite (onCluster cl (fun r => { r with spare := some c }) s)) s

/-- What waits in the clusters of the chosen dies is gone: their registers take their reset values (R72, R73); the
repair record stands. -/
def changesCleared (mask : Nat) (c : CoreBlk) : CoreBlk :=
  { c with clusters := Vector.ofFn fun n : Fin 64 =>
      let r := vget c.clusters n.val {}
      if mask.testBit (n.val / 16) then { r with change := none, deferred := [] } else r }

/-- A reset of compute dies (R473): the Last, the dies, the MEM registers; then waiting stack retirements take
effect, since no Last is left (R490). -/
def diesReset (mask : Nat) (s : State) : State :=
  if mask = 0 then s
  else
    let s1 := memReset (lastReset s)
    retireWaiting (((testsCut mask s1).onCore (diesCleared mask)).onCore (changesCleared mask))

/-! ## Processors (R225, R226, R473) -/

/-- The power manager's own registers at their reset values; what Cobbler holds and the core side stays
(R283, R253). -/
def pwrMpReset (p : PwrBlk) : PwrBlk :=
  { p with stewardW := 0xFFFF, thermal800 := false, shedW := 1600, warm := false, normal := false,
           coldStart := none, keepWarm := true, tThrottle := 0x64, thrCluster := 0, dReq := 0, dApplied := 0,
           escalated := false, thrTemp := 0, history := [] }

/-- The LOG block under a reset of the MP: its counters clear, the sequence numbers stay (R469). -/
def logMpReset (l : LogBlk) : LogBlk := { l with islLost := 0, suppr := 0 }

/-- Every port's transfer is closed (R223, R226). -/
def closeAll (s : State) : State := allPorts.foldl (fun s p => closeTransfer p s) s

/-- What a reset of the MP does beside the mailboxes and locks of master 4 (R473): commands without a reply end in
ABORTED_RESET, transfers abort (R226), what it had in flight on the island bridge is discarded (R14), and GEN_FW
holds what it showed (R198). -/
def mpOff (s : State) : State :=
  let s1 := if s.sec.mpRun then closeAll (abortAll s) else s
  (((s1.onPwr pwrMpReset).onLog logMpReset).onMbx fun b => { b with bridgeRetry := [] }).onSec fun c =>
    { c with mpRun := false, mpShown := fwShown c.mpRun c.mp c.mpShown }

/-- A reset of the MP (R473). -/
def mpDown (s : State) : State := mastersReset [4] (mpOff s)

/-- The debug lock closes again where a token had opened it (R504). -/
def relock (s : State) : State := s.onSec fun c => { c with debug := if c.debug = 1 then 0 else c.debug }

/-- What a reset of the security processor does beside the mailboxes and locks of master 6 (R225, R473, R504):
firmware words that it receives itself, without an MP, are lost with it (R223); binding table and lock stay. -/
def secOff (s : State) : State :=
  let s0 := if s.sec.mpRun then s else closeTarget [2] s
  portReset .security (relock (s0.onSec fun c =>
    { c with secRun := false, nonce := none, secShown := fwShown c.secRun c.sec c.secShown }))

/-- A reset of the security processor (R473). -/
def secDown (s : State) : State := mastersReset [6] (secOff s)

/-- A reset of the island processor (R14, R225, R473); every island block runs on. -/
def procDown (s : State) : State :=
  let s1 := (s.onIsl fun i => { i with fwRun := false, procReset := true }).onMbx fun b => { b with bridgeRetry := [] }
  mastersReset [5] (portReset .cobbler s1)

/-- The bank of a target that ran before the activation under trial is taken again, and the failed bank
is invalid (R487). -/
def rolledBack (f : Fw) : Fw :=
  let g := if f.cur then { f with b := { f.b with valid := false, committed := false, confirmed := false } }
           else { f with a := { f.a with valid := false, committed := false, confirmed := false } }
  { g with cur := f.prev, trial := false, armed := false }

/-- ROLLBACK of a target, logged (R487). -/
def rollback (t : Nat) (s : State) : State :=
  raise (if t = 2 then Ev.fwIslRollback else Ev.fwRollback) [(1, t)] (s.onSec (SecBlk.onFw t rolledBack))

/-- The trial of a Cobbler activation is over: UPDATE_ARM and the timeout return (R485). -/
def trialOver (i : IslBlk) : IslBlk :=
  if i.updateArm then { i with updateArm := false, timeoutMs := i.savedTimeout } else i

/-- MP_RESET: an MP reset that no command asked for; during a trial the previous bank is taken (R487). -/
def execMpReset (s : State) : Out :=
  live s
    (if mgmtOn s then
       let t := mpDown s
       if s.sec.mp.trial then rollback 0 t else t
     else s)

/-- SECURITY_PROCESSOR_RESET. -/
def execSecurityProcessorReset (s : State) : Out := live s (if mgmtOn s then secDown s else s)

/-- ISLAND_PROCESSOR_RESET: by Toecap 1 ms after its expiry, by RESET_DOMAIN or an activation (R311,
R473). -/
def execIslandProcessorReset (s : State) : Out := live s (procDown s)

/-! ## Power domains going down (R223, R227, R231, R264) -/

/-- The MP programs its pending records before its domain powers down (R464); not while a thermal trip
is latched (R386). -/
def drainMain (s : State) : State :=
  if mpRuns s && !s.welt.thermTrip then
    (List.range s.log.mainQueue.length).foldl (fun s _ =>
      s.onLog fun l => programMain s.row.epoch (if l.sectorErase then { l with sectorErase := false, nextErased := true } else l)) s
  else s

/-- Commands that wait to start and whose server the management power-down takes off are answered DOMAIN_OFF
(R227). -/
def offlineWaiting (s : State) : State :=
  s.port.ctx.foldl (fun s e =>
    if e.started || (e.port == .tray && cobServed s e.op e.words) then s else finish e 7 [] s) s

/-- The management domain is gone: MP and security processor reset, records not programmed lost, and masters 1,
2, 4, 6 and 7 held in reset together (R227, R231, R243, R473). -/
def mgmtLost (s : State) : State :=
  let s1 := secOff (mpOff (offlineWaiting s))
  let s2 := s1.onLog fun l => { l with mainQueue := [] }
  let s3 := (msixReset true (portReset .debug s2)).onSec fun c => { c with bootFailed := false, bootErr := 0 }
  mastersReset [1, 2, 4, 6, 7] s3

/-- A management power-down in order: the MP programs its records first (R464). -/
def mgmtDown (s : State) : State := mgmtLost (drainMain s)

/-- The compute domains lose power: the Last and the dies as in a reset of all dies (R109, R261). -/
def computeDown (s : State) : State := diesReset 0xF s

/-- The stacks enter self-refresh, those that still train among them (R122, R264 step 4). DESIGN CHOICE: TEMP and
REFRESH_2X read 0 there and when retired (R132, notes/assumptions/162). -/
def stacksRefresh (s : State) : State :=
  s.onMem fun m => { m with stk := m.stk.map fun k =>
    if k.st == .inService || k.st == .training then { k with st := .selfRefresh, temp := 0, refresh2x := false }
    else k }

/-- The stacks lose power: contents and training are gone (R122). -/
def stacksOff (s : State) : State :=
  s.onMem fun m =>
    { m with hbm := [], hbmPoison := [], rereads := []
             stk := m.stk.map fun k =>
               if k.recRetired then { k with st := .retired }
               else { k with st := .off, zeroed := false, temp := 0, refresh2x := false, system := false } }

end Sys2Proof.Machine
end

