-- ==== Sys2Proof/Machine/Keys.lean ====
section
/-! DEFINITION. Key slots, signatures, the images of firmware banks, measurements and the SEC registers (R492
to R500, R506). -/

namespace Sys2Proof.Machine

/-- A key slot is enabled: it holds a key and is not revoked; RETURNED disables the owner slots (R493,
R501). -/
def slotEnabled (s : State) (k : Nat) : Bool :=
  !s.sec.revoke.getLsbD k &&
    (decide (k < 4) || (decide (k < 8) && s.sec.ownerKeys.getLsbD (k - 4) && s.sec.life != .returned))

/-- A signature block of 26 words verifies over an image's words: its algorithm, a slot from a range that is
enabled, and r and s (R87, R493). FREE VALUE: what verifies (notes/assumptions/87). -/
def sigBlockOk (s : State) (lo hi : Nat) (signed sig : List Word) : Bool :=
  let k := fld (wd sig 1) 0 8
  fld (wd sig 0) 0 8 == 1 && decide (lo ≤ k ∧ k ≤ hi) && slotEnabled s k &&
    Config.sigOk k (hashWords signed) ((sig.drop 2).take 24)

/-- Measurement i extended by a digest, while the security processor runs (R500). -/
def measure (i : Nat) (digest : List Byte) (s : State) : State :=
  if s.sec.secRun then s.onSec fun c => { c with m := vmod c.m i fun x => extended x digest } else s

/-- M4: one byte each of lifecycle and debug state (R500). -/
def measureLife (life : Nat) (debug : Nat) (s : State) : State :=
  measure 4 (sha384 [BitVec.ofNat 8 life, BitVec.ofNat 8 debug]) s

/-! ## Firmware banks (R482, R495, R496) -/

/-- A bank of a target: `false` A, `true` B. -/
def bankOf (f : Fw) (b : Bool) : Bank := if b then f.b else f.a

/-- The image of a bank. FREE VALUE: the words of the one from manufacture (notes/assumptions/96). -/
def bankImage (s : State) (t : Nat) (b : Bool) : List Word :=
  let k := bankOf (s.sec.fw t) b
  if k.image = [] then Config.factoryImage t else k.image

/-- The words of an image before its signature block: the signature takes the last 26 (R495). -/
def fwSigned (img : List Word) : List Word := img.take (img.length - 26)
def fwSig (img : List Word) : List Word := img.drop (img.length - 26)

/-- The key slot that signs a bank's image. -/
def bankSlot (s : State) (t : Nat) (b : Bool) : Nat :=
  let k := bankOf (s.sec.fw t) b
  if k.image = [] then Config.factorySlot t % 4 else fld (wd (fwSig k.image) 1) 0 8

/-- The digest of a bank's plaintext image (R500). FREE VALUE: the plaintext (notes/assumptions/87). -/
def bankDigest (s : State) (t : Nat) (b : Bool) : List Byte :=
  let img := bankImage s t b
  hashWords (if t = 2 then img else Config.plainBody img)

/-- The fused release floor of a target (R492). -/
def floorOf (s : State) (t : Nat) : Nat :=
  if t = 0 then s.sec.floorMp else if t = 1 then s.sec.floorSec else s.sec.floorIsl

/-- A bank verifies at a start: it holds an image that was programmed whole, whose slot is still enabled and
whose release stands at the floor or above (R496, R498). -/
def bootOk (s : State) (t : Nat) (b : Bool) : Bool :=
  let k := bankOf (s.sec.fw t) b
  k.valid && slotEnabled s (bankSlot s t b) && decide (bankSlot s t b < 4) && decide (floorOf s t ≤ k.release)

/-- The bank that a start takes: the one last activated, or else the other (R498, R499). -/
def bootBank (s : State) (t : Nat) : Option Bool :=
  let c := (s.sec.fw t).cur
  if bootOk s t c then some c else if bootOk s t (!c) then some (!c) else none

/-! ## The binding table (R232, R233, R497) -/

/-- The entry of a channel in the configuration block of the security bank that is current: the table of R233
in the images from manufacture. FREE VALUE: the table of another image (notes/assumptions/88). -/
def bindingOf (s : State) (c : Nat) : Nat × Nat :=
  let k := bankOf s.sec.sec s.sec.sec.cur
  if k.image = [] then bindingB0.getD c (0, 0)
  else ((Config.bindEntry k.image c).1.toNat, (Config.bindEntry k.image c).2.toNat)

/-- The binding table is written, unless the binding lock is set (R232). -/
def loadBinding (s : State) : State :=
  if s.sec.bindLock then s
  else s.onMbx fun b => { b with ch := b.ch.mapFinIdx fun c x _ =>
    { x with sender := (bindingOf s c).1, receiver := (bindingOf s c).2 } }

/-! ## Registers (R506) -/

/-- SEC_STAT. -/
def regSecStat (s : State) : Word :=
  mkW [(30, s.sec.life.code), (29, bn s.sec.pendLife.isSome), (28, bn s.sec.secLock), (27, bn s.sec.bindLock),
       (25, s.sec.debug), (24, bn s.sec.nonce.isSome), (22, (s.sec.pendLife.map Life.code).getD 0),
       (0, s.sec.bootErr)]

/-- SEC_KEYS. -/
def regSecKeys (s : State) : Word :=
  mkW ([(24, s.sec.floorMp), (16, s.sec.floorSec), (8, s.sec.floorIsl)] ++
       (List.range 8).map fun k => (k, bn (slotEnabled s k)))

/-- A read of the SEC page. -/
def regSec (s : State) (off : Nat) : Word :=
  if off = 0x0 then regSecStat s else if off = 0x4 then regSecKeys s else 0

end Sys2Proof.Machine
end

