-- ==== Sys2Proof/Machine/Mailbox.lean ====
section
/-! DEFINITION. Mailboxes and locks (R230 to R252). -/

namespace Sys2Proof.Machine

/-- The tray bus block changed. -/
def onBus (f : TrayBus → TrayBus) (s : State) : State := s.onPort fun b => { b with bus := f b.bus }

/-- A cycle of the tray bus still waits. -/
def busWaits (s : State) : Bool :=
  s.port.bus.waiting.isSome || s.port.bus.roomWait.isSome || s.port.bus.readWait.isSome ||
  s.port.bus.doorbellWait.isSome

/-- A channel changed. -/
def onCh (c : Nat) (f : Mbx → Mbx) (s : State) : State := s.onMbx fun b => { b with ch := vmod b.ch c f }

/-- A channel of the mailbox block. -/
def mbxCh (s : State) (c : Nat) : Mbx := vget s.mbx.ch c {}

/-- MBX_ACCESS_DENIED: a write that does not fit the binding is counted and logged (R239). -/
def mbxDenied (m : Master) (c : Nat) (s : State) : State :=
  raise Ev.mbxAccessDenied []
    (s.onMbx fun b => { b with violCount := satAdd 0xFFFF b.violCount 1, violMaster := m.id, violChannel := c })

/-- The master is the bound sender of a channel; the bound receiver. -/
def isSender (c : Mbx) (m : Master) : Bool := c.bound && c.sender == m.id
def isReceiver (c : Mbx) (m : Master) : Bool := c.bound && c.receiver == m.id

/-- A write of MBX_DATA word k (R235, R239). -/
def mbxData (m : Master) (c k : Nat) (be : BitVec 4) (w : Word) (s : State) : State :=
  let x := mbxCh s c
  if !isSender x m then mbxDenied m c s
  else if x.doorbell then onCh c (fun x => { x with refused := true }) s
  else onCh c (fun x => { x with data := vmod x.data k fun old => wRW 0xFFFFFFFF#32 old w be }) s

/-- The byte enables of a write: those of a PCIe write; every other master writes whole words (R255). -/
def enablesOf (m : Master) (be : BitVec 4) : BitVec 4 := if m = .hostCtl ∨ m = .hostData then be else 0xF

/-- MBX_DATA_WRITE. -/
def execMbxDataWrite (m : Master) (ch k : Fin 16) (be : BitVec 4) (w : Word) (s : State) : Out :=
  live s (if masterReach s m then mbxData m ch.val k.val (enablesOf m be) w s else s)

/-- The receiver's interrupt on the transition of its channel to full (R238). Where a message to master 1 or 2 is a
wake cause, its interrupt follows when the host's resume completes (R269, R271). -/
def mbxInterrupt (receiver : Nat) (s : State) : State :=
  if receiver = 1 then
    (if deviceWakes s then deviceWake 4 (evalIrq s) else evalIrq (s.onPort (raiseVec 1)))
  else if receiver = 2 then
    (if deviceWakes s then deviceWake 4 s else s.onPort raiseDataVec)
  else s

/-- A DOORBELL toward a receiver whose domain is off is refused (R241). -/
def doorbellRefused (s : State) (m : Master) (c : Nat) : Bool :=
  let x := mbxCh s c
  isSender x m && !x.doorbell && !masterOn s x.receiver

/-- A write of 1 to DOORBELL (R238, R239, R241). -/
def mbxPost (m : Master) (c : Nat) (s : State) : State :=
  let x := mbxCh s c
  if !isSender x m then mbxDenied m c s
  else if x.doorbell then onCh c (fun x => { x with refused := true }) s
  else if !masterOn s x.receiver then onCh c (fun x => { x with ackCode := 0xFD, ackValid := true }) s
  else
    mbxInterrupt x.receiver
      (onCh c (fun x => { x with doorbell := true, msgEpoch := x.senderEpoch, ackValid := false }) s)

/-- The effect of a write of MBX_STAT by the bits written: the W1C bits, ACK_VALID only for the sender, then the
doorbell (R236, R239). -/
def mbxStatBits (m : Master) (c : Nat) (v : Word) (s : State) : State :=
  let x := mbxCh s c
  if !x.bound then mbxDenied m c s
  else
    let s1 := onCh c (fun x =>
      { x with ackValid := x.ackValid && !(bitOf v 7 && isSender x m), refused := x.refused && !bitOf v 6 }) s
    if bitOf v 0 then evalIrq (mbxPost m c s1) else s1

/-- A write of MBX_STAT with the signalling of a refusal on its path: a tray write that commits DOORBELL waits for
the island's answer, and has no effect before it; an internal master gets an error completion; a PCIe write
carries none (R227, R241, R249). -/
def mbxStatWrite (m : Master) (c : Nat) (v : Word) (s : State) : State :=
  if bitOf v 0 then
    match m with
    | .tray => if busWaits s then s else onBus (fun b => { b with doorbellWait := some (c, v) }) s
    | .hostCtl => answered [] .ok (mbxStatBits m c v s)
    | .hostData => answered [] .ok (mbxStatBits m c v s)
    | _ => answered [] (if doorbellRefused s m c then .err else .ok) (mbxStatBits m c v s)
  else mbxStatBits m c v s

/-- MBX_DOORBELL: a write of 1 to DOORBELL. -/
def execMbxDoorbell (m : Master) (ch : Fin 16) (s : State) : Out :=
  live s (if masterReach s m then mbxStatWrite m ch.val 1 s else s)

/-- TRAY_DOORBELL_ANSWER: the island posts or refuses the doorbell, and its answer ends the waiting cycle, with
`ERR#` when the message was refused (R241, R249). -/
def execTrayDoorbellAnswer (s : State) : Out :=
  live s
    (match s.port.bus.doorbellWait with
     | none => s
     | some (c, v) =>
       answered [] (if doorbellRefused s .tray c then .err else .ok)
         (mbxStatBits .tray c v (onBus (fun b => { b with doorbellWait := none }) s)))

/-- A write of MBX_ACK (R238, R239, R242). -/
def mbxAcknowledge (m : Master) (c : Nat) (code : Byte) (s : State) : State :=
  let x := mbxCh s c
  if !isReceiver x m || !x.doorbell then mbxDenied m c s
  else
    evalIrq (onCh c (fun x =>
      if x.msgEpoch ≠ x.senderEpoch then { x with doorbell := false }
      else { x with ackCode := if code.toNat < 0xF0 then code else 0xEF, ackValid := true, doorbell := false }) s)

/-- MBX_ACK. -/
def execMbxAck (m : Master) (ch : Fin 16) (code : Byte) (s : State) : Out :=
  live s (if masterReach s m then mbxAcknowledge m ch.val code s else s)

/-- MBX_STAT (R236). -/
def regMbxStat (c : Mbx) : Word :=
  mkW [(24, c.ackCode.toNat), (20, c.senderEpoch.toNat), (16, c.msgEpoch.toNat), (13, c.sender),
       (10, c.receiver), (7, bn c.ackValid), (6, bn c.refused), (1, bn c.bound), (0, bn c.doorbell)]

/-- MBX_VIOL (R240). -/
def regMbxViol (b : MbxBlk) : Word := mkW [(16, b.violCount), (4, b.violMaster), (0, b.violChannel)]

/-- A read of the MBX block at an offset (R234, R235). -/
def regMbx (s : State) (m : Master) (off : Nat) : Word :=
  if off = 0x800 then regMbxViol s.mbx
  else if 0x800 ≤ off then 0
  else
    let x := mbxCh s (off / 0x80)
    let o := off % 0x80
    if o < 0x40 then (if isSender x m || isReceiver x m then vget x.data (o / 4) 0 else 0)
    else if o = 0x40 then regMbxStat x
    else 0

/-- A write to the MBX block at an offset (R234, R255). -/
def mbxWrite (m : Master) (off : Nat) (be : BitVec 4) (w : Word) (s : State) : State :=
  if off = 0x800 then
    s.onMbx fun b => { b with violCount := fld (wRW 0xFFFF0000#32 (regMbxViol b) w be) 16 16 }
  else if 0x800 ≤ off then s
  else
    let c := off / 0x80
    let o := off % 0x80
    if o < 0x40 then mbxData m c (o / 4) be w s
    else if o = 0x40 then mbxStatWrite m c (w &&& beMask be) s
    else if o = 0x44 then (if woActs be then mbxAcknowledge m c (w.setWidth 8) s else s)
    else s

/-! ## Locks (R244 to R248) -/

/-- A lock. -/
def lockOf (s : State) (n : Nat) : LockSt := vget s.mbx.locks n {}

/-- A lock changed. -/
def onLock (n : Nat) (f : LockSt → LockSt) (s : State) : State :=
  s.onMbx fun b => { b with locks := vmod b.locks n f }

/-- What a read of LOCK_n returns (R244). -/
def lockValue (s : State) (n : Nat) : Word := w32 (lockOf s n).owner

/-- A read of LOCK_n by a master: the owner of a free lock is the reader (R244). -/
def lockAcquire (m : Master) (n : Nat) (s : State) : State :=
  onLock n (fun l => if l.owner = 0 then { l with owner := m.id } else l) s

/-- LOCK_READ. -/
def execLockRead (m : Master) (n : Fin 32) (s : State) : Out :=
  live s (if masterReach s m then answered [lockValue s n.val] .ok (lockAcquire m n.val s) else s)

/-- A write of LOCK_n: 0 in VALUE by the owner frees it; what the reserved bits hold is ignored (R4, R244,
R245). -/
def lockWrite (m : Master) (n : Nat) (w : Word) (s : State) : State :=
  onLock n (fun l => if fld w 0 3 = 0 ∧ l.owner = m.id then { l with owner := 0 } else l) s

/-- LOCK_RELEASE. -/
def execLockRelease (m : Master) (n : Fin 32) (w : Word) (s : State) : Out :=
  live s (if masterReach s m then lockWrite m n.val w s else s)

/-- LOCK_STAT_n (R245). -/
def regLockStat (l : LockSt) : Word := mkW [(1, l.brokenOwner), (0, bn l.broken)]

/-- A read of LOCK_STAT_n clears it (R246). -/
def lockStatClear (n : Nat) (s : State) : State := onLock n (fun l => { l with broken := false, brokenOwner := 0 }) s

/-- LOCK_STAT_READ. -/
def execLockStatRead (m : Master) (n : Fin 32) (s : State) : Out :=
  live s
    (if masterReach s m then answered [regLockStat (lockOf s n.val)] .ok (lockStatClear n.val s) else s)

/-- A read of the LOCK block at an offset (R245). -/
def regLock (s : State) (off : Nat) : Word :=
  if off < 0x80 then lockValue s (off / 4)
  else if 0x100 ≤ off ∧ off < 0x180 then w32 (lockOf s ((off - 0x100) / 4)).owner
  else if 0x200 ≤ off ∧ off < 0x280 then regLockStat (lockOf s ((off - 0x200) / 4))
  else 0

/-- What a read of the LOCK block changes. -/
def lockBlockRead (m : Master) (off : Nat) (s : State) : State :=
  if off < 0x80 then lockAcquire m (off / 4) s
  else if 0x200 ≤ off ∧ off < 0x280 then lockStatClear ((off - 0x200) / 4) s
  else s

/-- A write to the LOCK block: it acts where it enables the byte that holds VALUE (R244, R255). -/
def lockBlockWrite (m : Master) (off : Nat) (be : BitVec 4) (w : Word) (s : State) : State :=
  if off < 0x80 ∧ be.getLsbD 0 = true then lockWrite m (off / 4) w s else s

/-! ## The debug port -/

/-- DEBUG_TAP_RESET: master 7 and the debug port reset (R225, R473). -/
def execDebugTapReset (s : State) : Out := live s (mastersReset [7] (portReset .debug s))

end Sys2Proof.Machine
end

