-- ==== Sys2Proof/Machine/Drive.lean ====
section
/-! DEFINITION. Valves, PWM outputs, tachometers and cooling pins (R345 to R374). -/

namespace Sys2Proof.Machine

/-! ## Selection of outputs by slots (R321) -/

/-- The slot that drives an output: a configuration takes effect at the next tick (R327). -/
def slotFor (s : State) (kind idx : Nat) : Option Slot :=
  s.ctl.slots.toList.find? fun x => x.actKind == kind && x.actIndex == idx

/-- The slot that drives a valve channel: OUT_KIND 1 for Zk, 2 for XVn. -/
def valveSlot (s : State) (k : Nat) : Option Slot := if k < 16 then slotFor s 1 k else slotFor s 2 (k - 16)

/-! ## Ends of commands -/

/-- The later of two ends. -/
def laterEnd : Option Nat → Option Nat → Option Nat
  | some a, some b => some (max a b)
  | _, _ => none

/-- The end one control tick on. -/
def tickEnd : Option Nat → Option Nat
  | some n => some (n - 1)
  | none => none

/-! ## Registers (R366 to R373) -/

def regVlvCfg (v : VlvBlk) : Word := mkW [(16, v.periodMs), (8, v.minOpenMs)]
def regProfZ (v : VlvBlk) : Word := mkW [(24, v.iPeak), (16, v.iHold), (8, v.tBoost), (0, v.tPeak)]
def regXvCtl (x : Xv) : Word :=
  mkW [(24, x.iPeak), (16, x.iHold), (8, x.tPeak), (2, bn x.no), (0, bn x.peakHold)]
def regPwm (p : Pwm) : Word :=
  mkW [(22, p.active), (12, p.minDuty), (11, bn p.stallEn), (10, bn p.stopEn), (0, p.duty)]

/-- The FUNC code of a cooling pin (R361, R373). -/
def pinFn (v : VlvBlk) (p : Nat) : BitVec 2 := vget v.pinFunc p 0

def regTach (v : VlvBlk) (n : Nat) : Word :=
  mkW [(16, (vget v.tach n {}).rpm), (15, bn (pinFn v (4 + n) != 0))]

def regPinFunc (v : VlvBlk) : Word :=
  mkW ((List.range 12).map fun p => (2 * p, (pinFn v p).toNat))

def regPinIo (v : VlvBlk) : Word := mkW [(16, v.pinOut.toNat), (0, v.pinIn.toNat)]

/-- The code of a phase (R369). -/
def VPhase.code : VPhase → Nat
  | .closed => 0
  | .waiting => 1
  | .boost => 2
  | .peak => 3
  | .hold => 4
  | .supplyWait => 5

/-- The gate pin of an external channel is not PRIMARY (R363). -/
def xvAway (v : VlvBlk) (k : Nat) : Bool := 16 ≤ k && pinFn v (8 + (k - 16)) != 0

def valveOf (s : State) (k : Nat) : Valve := vget s.vlv.ch k {}

def regVlvStat (s : State) (k : Nat) : Word :=
  let c := valveOf s k
  mkW [(29, c.phase.code), (28, bn c.pend.isSome), (27, bn c.forced), (26, bn (xvAway s.vlv k)),
       (24, c.fault), (8, c.move), (0, c.stuckCnt)]

/-! ## Profiles (R348 to R354) -/

/-- A valve channel changed. -/
def onValve (k : Nat) (f : Valve → Valve) (s : State) : State := s.onVlv fun v => { v with ch := vmod v.ch k f }

/-- Zone valves in boost or peak (R349). -/
def busyZones (s : State) : Nat :=
  ((s.vlv.ch.toList.take 16).filter fun c => c.phase == .boost || c.phase == .peak).length

/-- XV_CTL of an external channel. -/
def xvOf (s : State) (k : Nat) : Xv := vget s.vlv.xv (k - 16) {}

/-- A closed valve starts its profile: a zone valve boosts unless four are in boost or peak (R348, R349),
or waits for its supply (R353); an external channel has no boost (R354). -/
def startProfile (k : Nat) (s : State) : State :=
  if 16 ≤ k then
    onValve k (fun c => { c with phase := if (xvOf s k).peakHold then .peak else .hold, dip := false }) s
  else if s.vlv.supplyLow then onValve k (fun c => { c with phase := .supplyWait }) s
  else if busyZones s < 4 then onValve k (fun c => { c with phase := .boost, dip := false }) s
  else onValve k (fun c => { c with phase := .waiting }) s

/-- A forced fully-open command stands (R355). -/
def forcedStands (s : State) : Bool := s.vlv.forcedPower || s.vlv.forcedToecap || s.vlv.forcedRail

/-- A forced command bars commands on a normally open channel (R354). -/
def barred (s : State) (k : Nat) : Bool := 16 ≤ k && forcedStands s && (xvOf s k).no

/-- A command with an end reaches a channel (R350). -/
def valveCommand (k : Nat) (e : Option Nat) (s : State) : State :=
  if barred s k then s
  else
    match (valveOf s k).phase with
    | .hold => onValve k (fun c => { c with endAt := laterEnd c.endAt e }) s
    | .supplyWait => onValve k (fun c => { c with endAt := laterEnd c.endAt e }) s
    | .closed => startProfile k (onValve k (fun c => { c with endAt := e, pend := none }) s)
    | _ =>
      onValve k (fun c => { c with pend := some (match c.pend with
                                                 | none => e
                                                 | some p => laterEnd p e) }) s

/-- Waiting zone valves start in ascending order while fewer than four boost or peak (R349). -/
def startWaiting (s : State) : State :=
  (List.range 16).foldl (fun s k =>
    if (valveOf s k).phase == .waiting && decide (busyZones s < 4) && !s.vlv.supplyLow then
      onValve k (fun c => { c with phase := .boost, dip := false }) s
    else s) s

/-- The coil goes off: running and pending commands end, and a waiting valve may start. -/
def valveOff (k : Nat) (s : State) : State :=
  startWaiting (onValve k (fun c => { c with phase := .closed, endAt := some 0, pend := none }) s)

/-- CLOSE ends the running command and discards the pending one in every phase (R350). -/
def valveClose (k : Nat) (s : State) : State := if (valveOf s k).phase == .closed then s else valveOff k s

/-- The forced fully-open command on one channel (R354, R355): no end on a normally closed valve, the gate
held off on a normally open one. -/
def forceChannel (s : State) (k : Nat) : State :=
  let s1 := onValve k (fun c => { c with forced := true }) s
  if 16 ≤ k ∧ (xvOf s k).no = true then
    onValve k (fun c => { c with phase := .closed, endAt := some 0, pend := none }) s1
  else valveCommand k none s1

/-- FORCED_FULLY_OPEN: the forced command to every channel, and every cooling pin to its primary
function (R355, R363). -/
def forceOpenAll (s : State) : State :=
  (List.range 20).foldl forceChannel (s.onVlv fun v => { v with pinFunc := Vector.replicate 12 0 })

/-- The forced command is withdrawn when every cause has ended; a valve then holds until its next
boundary (R355). -/
def withdrawIfFree (s : State) : State :=
  if forcedStands s then s
  else s.onVlv fun v => { v with ch := v.ch.map fun c => { c with forced := false } }

/-! ## Period boundaries and ends of commands (R347, R348, R350) -/

/-- The open time of R347 in ticks, for a period in ms. -/
def openTicks (v : VlvBlk) (period u : Nat) : Nat :=
  let d := u * 10 * period / 0x8000
  let m := 10 * v.minOpenMs
  if 0 < d ∧ d < m then (if 2 * d < m then 0 else m) else d

/-- The tick is a period boundary of channel k (R347). -/
def atBoundary (s : State) (k : Nat) : Bool :=
  let t := 10 * (valveOf s k).period
  s.isl.tick.toNat % t == k * t / 20

/-- The duration of the command that a boundary issues: the energised time of a normally open channel is
T_V − D (R347, R354). -/
def boundaryTicks (s : State) (k : Nat) (x : Slot) : Nat :=
  let d := openTicks s.vlv s.vlv.tickPeriod x.out
  if 16 ≤ k ∧ (xvOf s k).no = true then 10 * s.vlv.tickPeriod - d else d

/-- A hold without an end that is no longer forced ends at the boundary (R355). -/
def endOpenHold (c : Valve) : Valve :=
  if c.forced then c
  else { c with endAt := if c.endAt = none then some 0 else c.endAt
                pend := c.pend.map fun p => if p = none then some 0 else p }

/-- A valve test holds the channel: the slot that selects it is ignored (R384). -/
def inValveTest (s : State) (k : Nat) : Bool := s.welt.test.any fun t => k == 16 + t.xvIn || k == 16 + t.xvOut

/-- VALVE_PERIOD_BOUNDARY. DEDUCED: the boundary that takes up a changed period computes its command from
the new one (notes/assumptions/31); a change within the tick of a boundary waits for the next one (R364). -/
def execValvePeriodBoundary (ch : Fin 20) (s : State) : Out :=
  live s
    (if atBoundary s ch.val && !inValveTest s ch.val then
       let s1 := onValve ch.val (fun c => { endOpenHold c with period := s.vlv.tickPeriod }) s
       match valveSlot s ch.val with
       | none => s1
       | some x =>
         let d := boundaryTicks s ch.val x
         if d = 0 then s1 else valveCommand ch.val (some d) s1
     else s)

/-- The hold of a channel whose command has ended goes off (R348). -/
def endHold (k : Nat) (s : State) : State :=
  if (valveOf s k).phase == .hold && (valveOf s k).endAt == some 0 then valveOff k s else s

/-- VALVE_COMMAND_END. -/
def execValveCommandEnd (ch : Fin 20) (s : State) : Out := live s (endHold ch.val s)

/-- The first dip of a profile, with its time from the command start (R351). -/
def noteDip (k : Nat) (dip : Option Nat) (s : State) : State :=
  match dip with
  | none => s
  | some us => onValve k (fun c => if c.dip then c else { c with dip := true, move := min us 65534 }) s

/-- A coil fault: VLV_EVENT, VLV_STAT.FAULT and the record (R352). -/
def coilFault (k code : Nat) (s : State) : State :=
  raise Ev.valveCoilFault [(1, k), (1, code)]
    (onValve k (fun c => { c with fault := code }) (s.onVlv fun v => { v with event := setBit v.event 30 }))

/-- BOOST_END: at I_PEAK or at T_BOOST, then with fault 0b01 (R348, R351, R352). -/
def execBoostEnd (ch : Fin 20) (peakReached : Bool) (dipUs : Option Nat) (s : State) : Out :=
  live s
    (if (valveOf s ch.val).phase == .boost then
       let s1 := onValve ch.val (fun c => { c with phase := .peak }) (noteDip ch.val dipUs s)
       if peakReached then s1 else coilFault ch.val 1 s1
     else s)

/-- VALVE_STUCK: the peak ended with no dip (R351). -/
def valveStuck (k : Nat) (s : State) : State :=
  raise Ev.valveStuck [(1, k)]
    (onValve k (fun c => { c with move := 0xFFFF, stuckCnt := satAdd 0xFF c.stuckCnt 1 })
      (s.onVlv fun v => { v with event := setBit v.event k }))

/-- PEAK_END: hold begins, the pending command extends it, waiting valves start (R348 to R351). -/
def execPeakEnd (ch : Fin 20) (dipUs : Option Nat) (s : State) : Out :=
  live s
    (if (valveOf s ch.val).phase == .peak then
       let s1 := if xvAway s.vlv ch.val then s else noteDip ch.val dipUs s
       let s2 := if (valveOf s1 ch.val).dip || xvAway s.vlv ch.val then s1 else valveStuck ch.val s1
       let s3 := onValve ch.val (fun c =>
         { c with phase := .hold, endAt := (match c.pend with
                                            | none => c.endAt
                                            | some p => laterEnd c.endAt p), pend := none }) s2
       endHold ch.val (startWaiting s3)
     else s)

/-! ## Coil and supply faults (R352, R353) -/

/-- A coil carries current: boost, peak or hold. -/
def energised (c : Valve) : Bool := c.phase == .boost || c.phase == .peak || c.phase == .hold

/-- COIL_OVERCURRENT: code 0b10; the coil goes off and its commands are discarded. -/
def execCoilOvercurrent (ch : Fin 20) (s : State) : Out :=
  live s
    (if energised (valveOf s ch.val) && !xvAway s.vlv ch.val then
       valveOff ch.val (coilFault ch.val 2 s)
     else s)

/-- COIL_OPEN_LOAD: code 0b11, in hold. -/
def execCoilOpenLoad (ch : Fin 20) (s : State) : Out :=
  live s
    (if (valveOf s ch.val).phase == .hold && !xvAway s.vlv ch.val then
       valveOff ch.val (coilFault ch.val 3 s)
     else s)

/-- A zone valve when its supply is lost (R353). -/
def supplyLoss (c : Valve) : Valve :=
  if c.phase == .closed then c
  else
    let e := match c.pend with
      | none => c.endAt
      | some p => laterEnd c.endAt p
    { c with phase := if e = some 0 then .closed else .supplyWait, endAt := e, pend := none }

/-- VALVE_SUPPLY_LOW: every zone coil goes off; valves with an unexpired command wait for the supply. -/
def execValveSupplyLow (s : State) : Out :=
  live s
    (if s.vlv.supplyLow then s
     else
       raise Ev.valveSupplyLost []
         (s.onVlv fun v => { v with supplyLow := true, event := setBit v.event 31,
                                    ch := v.ch.mapFinIdx fun i c _ => if i < 16 then supplyLoss c else c }))

/-- VALVE_SUPPLY_RESTORED: every valve whose end still lies ahead runs a full profile. -/
def execValveSupplyRestored (s : State) : Out :=
  live s
    (if s.vlv.supplyLow then
       (List.range 16).foldl (fun s k =>
         if (valveOf s k).phase == .supplyWait then
           if (valveOf s k).endAt == some 0 then onValve k (fun c => { c with phase := .closed }) s
           else startProfile k s
         else s) (s.onVlv fun v => { v with supplyLow := false })
     else s)

/-- A channel does not stand as the forced command has it: a normally open one carries current, or another one is
closed (R354, R355). -/
def strays (s : State) (k : Nat) : Bool :=
  ((valveOf s k).phase == .closed) != (decide (16 ≤ k) && (xvOf s k).no)

/-- What a control tick does to the valve channels: every end comes one tick nearer (R347), PERIOD_MS is taken for
the boundaries of the tick, and a forced command that a fault discarded is issued again (R364). -/
def valvesTick (s : State) : State :=
  let s1 := s.onVlv fun v =>
    { v with tickPeriod := v.periodMs, ch := v.ch.map fun c => { c with endAt := tickEnd c.endAt, pend := c.pend.map tickEnd } }
  if forcedStands s1 then
    (List.range 20).foldl (fun s k => if strays s k then forceChannel s k else s) s1
  else s1

/-! ## PWM and tachometers (R356 to R360) -/

/-- A PWM output changed; a tachometer changed. -/
def onPwm (n : Nat) (f : Pwm → Pwm) (s : State) : State := s.onVlv fun v => { v with pwm := vmod v.pwm n f }
def onTach (n : Nat) (f : Tach → Tach) (s : State) : State := s.onVlv fun v => { v with tach := vmod v.tach n f }

/-- The duty of a slot output (R357). -/
def dutyOf (u : Nat) : Nat := (u * 1023 + 16384) / 32768

/-- ACTIVE at a reload (R358). -/
def activeDuty (forced : Bool) (p : Pwm) : Nat :=
  if forced then 1023
  else if p.minDuty ≤ p.duty then p.duty
  else if p.duty = 0 ∧ p.stopEn = true then 0
  else p.minDuty

/-- The high time of an output's period of 2,000 island cycles, by the duty in force (R357). -/
def pwmHigh (p : Pwm) : Nat := (p.active * 2000 + 511) / 1023

/-- PWM_RELOAD. -/
def execPwmReload (n : Fin 4) (s : State) : Out :=
  live s (onPwm n.val (fun p => { p with active := activeDuty (forcedStands s) p }) s)

/-- PWM_DUTY_WRITE: loads the shadow; a master's write is ignored while a slot selects the output
(R357). -/
def execPwmDutyWrite (m : Master) (n : Fin 4) (duty : BitVec 10) (s : State) : Out :=
  live s
    (if masterReach s m && (slotFor s 3 n.val).isNone then
       onPwm n.val (fun p => { p with duty := duty.toNat }) s
     else s)

/-- RPM from the last two periods (R359). -/
def rpmOf (a b : Nat) : Nat := if a + b = 0 then 65535 else min 65535 (3000000000 / (a + b))

/-- TACH_EDGE: a falling edge, with the island cycles since the last one. -/
def execTachEdge (n : Fin 4) (cycles : Nat) (s : State) : Out :=
  live s
    (if pinFn s.vlv (4 + n.val) == 0 then
       onTach n.val (fun t => { rpm := (match t.last with
                                        | none => t.rpm
                                        | some p => rpmOf p cycles), last := some cycles, stalled := false }) s
     else s)

/-- TACH_TIMEOUT: no falling edge for 1 s. -/
def execTachTimeout (n : Fin 4) (s : State) : Out :=
  live s (if pinFn s.vlv (4 + n.val) == 0 then onTach n.val (fun t => { t with rpm := 0 }) s else s)

/-- PUMP_STALL: no falling edge for 2 s, once for each stall (R360). -/
def execPumpStall (n : Fin 4) (s : State) : Out :=
  let p := vget s.vlv.pwm n.val {}
  let t := vget s.vlv.tach n.val {}
  live s
    (if p.stallEn && decide (0 < p.active) && !t.stalled && pinFn s.vlv (4 + n.val) == 0 then
       raise Ev.pumpStall [(1, n.val)]
         (onTach n.val (fun t => { t with stalled := true })
           (s.onVlv fun v => { v with stall := v.stall ||| (1#4 <<< n.val) }))
     else s)

/-! ## Writes to the block (R365 to R373) -/

/-- VLV_PROF_Z as written: each field at the nearer limit, I_HOLD at most I_PEAK (R365, R367). -/
def putProfZ (w : Word) (v : VlvBlk) : VlvBlk :=
  let p := clampN 40 200 (fld w 24 8)
  { v with iPeak := p, iHold := min p (clampN 10 80 (fld w 16 8)),
           tBoost := clampN 5 100 (fld w 8 8), tPeak := clampN 0 100 (fld w 0 8) }

/-- XV_CTL_n as written (R365, R370). -/
def putXv (w : Word) (_ : Xv) : Xv :=
  let p := clampN 40 200 (fld w 24 8)
  { iPeak := p, iHold := min p (clampN 10 80 (fld w 16 8)), tPeak := clampN 0 100 (fld w 8 8),
    no := bitOf w 2, peakHold := fld w 0 2 != 0 }

/-- A write to the VLV and PMP block. -/
def vlvWrite (off : Nat) (be : BitVec 4) (w : Word) (s : State) : State :=
  if off = 0x000 then
    s.onVlv fun v =>
      let x := wRW 0x03FFFF00#32 (regVlvCfg v) w be
      { v with periodMs := clampN 20 1000 (fld x 16 10), minOpenMs := min 50 (fld x 8 8) }
  else if off = 0x004 then s.onVlv fun v => putProfZ (wRW 0xFFFFFFFF#32 (regProfZ v) w be) v
  else if off = 0x008 then s.onVlv fun v => { v with event := wW1C 0xC00FFFFF#32 v.event w be }
  else if 0x010 ≤ off ∧ off < 0x060 then
    (if be.getLsbD 0 then onValve ((off - 0x010) / 4) (fun c => { c with stuckCnt := fld w 0 8 }) s else s)
  else if 0x080 ≤ off ∧ off < 0x090 then
    s.onVlv fun v => { v with xv := vmod v.xv ((off - 0x080) / 4) fun x =>
                                putXv (wRW 0xFFFFFF07#32 (regXvCtl x) w be) x }
  else if 0x100 ≤ off ∧ off < 0x110 then
    let n := (off - 0x100) / 4
    let free := (slotFor s 3 n).isNone
    onPwm n (fun p =>
      let x := wRW 0x003FFFFF#32 (regPwm p) w be
      { p with minDuty := min 512 (fld x 12 10), stallEn := bitOf x 11, stopEn := bitOf x 10,
               duty := if free then fld x 0 10 else p.duty }) s
  else if off = 0x120 then
    s.onVlv fun v => { v with stall := (wW1C 0xF#32 (v.stall.setWidth 32) w be).setWidth 4 }
  else s

/-- A read of the VLV and PMP block. -/
def regVlv (s : State) (off : Nat) : Word :=
  if off = 0x000 then regVlvCfg s.vlv
  else if off = 0x004 then regProfZ s.vlv
  else if off = 0x008 then s.vlv.event
  else if 0x010 ≤ off ∧ off < 0x060 then regVlvStat s ((off - 0x010) / 4)
  else if 0x080 ≤ off ∧ off < 0x090 then regXvCtl (vget s.vlv.xv ((off - 0x080) / 4) {})
  else if 0x100 ≤ off ∧ off < 0x110 then regPwm (vget s.vlv.pwm ((off - 0x100) / 4) {})
  else if 0x110 ≤ off ∧ off < 0x120 then regTach s.vlv ((off - 0x110) / 4)
  else if off = 0x120 then s.vlv.stall.setWidth 32
  else if off = 0x130 then regPinFunc s.vlv
  else if off = 0x134 then regPinIo s.vlv
  else 0

/-! ## Drive opcodes (R374) -/

/-- VALVE_CMD's effect. -/
def doValveCmd (e : Ctx) (s : State) : State × Answer :=
  let w := wd e.words 0
  let op := fld w 30 2
  let k := min 19 (fld w 16 5)
  let dur := clampN 1 60000 (fld w 0 16)
  let w1 := mkW [(30, op), (16, k), (0, dur)]
  let reply (st : Nat) (w2 : Word) (t : State) : State × Answer := (t, some (st, [w1, w2, regVlvStat t k]))
  if op = 2 then
    let t := if k < 16 then s.onVlv (putProfZ (wd e.words 1))
             else s.onVlv fun v => { v with xv := vmod v.xv (k - 16) (putXv (wd e.words 1)) }
    reply 0 (if k < 16 then regProfZ t.vlv else regXvCtl (xvOf t k)) t
  else if op = 3 then reply 0 0 s
  else if (valveSlot s k).isSome || forcedStands s then reply 6 0 s
  else if op = 0 then reply 0 0 (valveCommand k (some (10 * dur)) s)
  else reply 0 0 (valveClose k s)

/-- VALVE_CMD. -/
def execValveCmd (r : Req) (s : State) : Out := opcode 0x220 doValveCmd r s

/-- PWM_SET's effect. -/
def doPwmSet (e : Ctx) (s : State) : State × Answer :=
  let w := wd e.words 0
  let n := fld w 16 2
  let md := min 512 (fld (wd e.words 1) 0 10)
  let w1 := w &&& 0x00038FFF#32
  let reply (st : Nat) (t : State) : State × Answer :=
    (t, some (st, [w1, w32 md, regPwm (vget t.vlv.pwm n {}), regTach t.vlv n]))
  if bitOf w 15 && (slotFor s 3 n).isSome then reply 6 s
  else
    reply 0 (onPwm n (fun p =>
      { p with minDuty := md, stallEn := bitOf w 11, stopEn := bitOf w 10,
               duty := if bitOf w 15 then fld w 0 10 else p.duty }) s)

/-- PWM_SET. -/
def execPwmSet (r : Req) (s : State) : Out := opcode 0x221 doPwmSet r s

/-- PIN_FUNC_SET's effect: denied while a forced command stands (R363). DEDUCED: LEVEL loads the pin's
GPIO_OUT level whatever FUNC is (notes/assumptions/32). -/
def doPinFuncSet (e : Ctx) (s : State) : State × Answer :=
  let w := wd e.words 0
  let p := min 11 (fld w 16 4)
  let f := BitVec.ofNat 2 (fld w 0 2)
  let w1 := mkW [(16, p), (8, bn (bitOf w 8)), (0, f.toNat)]
  let reply (st : Nat) (t : State) : State × Answer :=
    (t, some (st, [w1, regPinFunc t.vlv, regPinIo t.vlv]))
  if forcedStands s then reply 6 s
  else
    reply 0 (s.onVlv fun v =>
      { v with pinFunc := vmod v.pinFunc p fun _ => f
               pinOut := if bitOf w 8 then v.pinOut ||| (1#12 <<< p) else v.pinOut &&& ~~~(1#12 <<< p) })

/-- PIN_FUNC_SET. -/
def execPinFuncSet (r : Req) (s : State) : Out := opcode 0x222 doPinFuncSet r s

end Sys2Proof.Machine
end

