-- ==== Sys2Proof/Machine/Sensors.lean ====
section
/-! DEFINITION. Power limits, the sensor front end, calibration and the forecast tiers (R272, R296 to
R308, R529). -/

namespace Sys2Proof.Machine

/-! ## Limits (R27, R272) -/

/-- The limits that stand, as (LIMIT_SRC code, W), in the order of the codes. The brake limits in S0 only
(R274). -/
def activeLimits (s : State) : List (Nat × Nat) :=
  [(0, 1600), (1, s.pwr.hostW)] ++
  (if s.pwr.stewardW = 0xFFFF then [] else [(2, s.pwr.stewardW)]) ++
  [(3, if s.pwr.thermal800 then min 800 s.pwr.shedW else s.pwr.shedW)] ++
  (if s.pwr.startup then [(4, 960)] else []) ++
  (if s.isl.coolDegraded then [(5, 800)] else []) ++
  (if s.pwr.brake && s.pwr.pstate == .s0 then [(6, 400)] else [])

/-- The lowest limit with its source; of equal ones, the lowest code (R272). -/
def lowestOf : List (Nat × Nat) → Nat × Nat
  | [] => (0, 1600)
  | [x] => x
  | x :: t => if x.2 ≤ (lowestOf t).2 then x else lowestOf t

/-- The lowest active limit in W. -/
def lowestLimit (s : State) : Nat := (lowestOf (activeLimits s)).2

/-! ## Channels (R297 to R301) -/

/-- A channel's partner (R297). -/
def partner (c : Nat) : Option Nat :=
  if c < 64 then some (if c % 2 = 0 then c + 1 else c - 1)
  else if c = 64 then some 65 else if c = 65 then some 64
  else if c = 66 then some 67 else if c = 67 then some 66
  else if c = 70 then some 71 else if c = 71 then some 70
  else none

/-- A channel's range in its VALUE unit (R297, R319). -/
def rangeOf (c : Nat) : Int × Int :=
  if c < 64 then (-2560, 9600) else if c < 70 then (-640, 8000)
  else if c < 72 then (0, 8000) else if c < 80 then (-2560, 9600) else (0, 20000)

/-- What a faulted channel reads: the top of a temperature range, zero flow (R300). -/
def faultValue (c : Nat) : Int := if c = 70 ∨ c = 71 ∨ 80 ≤ c then 0 else (rangeOf c).2

/-- A value shown as an integer code. FREE VALUE: the spec states no rounding (notes/assumptions/40). -/
def quant (r : Rat) : Int := if r.den = 1 then r.num else r.floor + (if Config.roundUp r then 1 else 0)

def sensorOf (s : State) (c : Nat) : Sensor := vget s.isl.sens c {}

/-- A sensor channel changed. -/
def onSensor (c : Nat) (f : Sensor → Sensor) (s : State) : State :=
  s.onIsl fun i => { i with sens := vmod i.sens c f }

/-- A channel gives a reading of its own: in service and primed (R299, R300). -/
def sensorValid (x : Sensor) : Bool := !x.fault && x.primed

/-- A channel's own value: the range's nearer end beyond it, the faulted value while faulted or not
primed (R299, R300, R319). -/
def ownValue (s : State) (c : Nat) : Int :=
  let x := sensorOf s c
  if sensorValid x then clampI (rangeOf c).1 (rangeOf c).2 (quant x.y) else faultValue c

/-- A channel's reading: the partner's value while it calibrates with a valid partner (R304). -/
def reading (s : State) (c : Nat) : Int :=
  match partner c with
  | none => ownValue s c
  | some p => if (sensorOf s c).cal && sensorValid (sensorOf s p) then ownValue s p else ownValue s c

/-- SENS_VAL_c (R319). -/
def regSensVal (s : State) (c : Nat) : Word :=
  let x := sensorOf s c
  mkW [(31, bn x.fault), (30, bn x.cal), (29, bn x.primed), (0, ofInt 16 (reading s c))]

/-- SENS_FAULT_i (R318). -/
def regSensFault (s : State) (i : Nat) : Word :=
  mkW ((List.range 32).map fun b => (b, bn (decide (32 * i + b < 82) && (sensorOf s (32 * i + b)).fault)))

/-- The paired reading of a temperature pair: the hotter valid member (R301). -/
def pairHot (s : State) (c d : Nat) : Int :=
  let vc := sensorValid (sensorOf s c)
  let vd := sensorValid (sensorOf s d)
  if vc && vd then max (reading s c) (reading s d)
  else if vc then reading s c else if vd then reading s d else faultValue c

/-- The paired reading of a flow pair: the lower valid member (R301). -/
def pairFlow (s : State) (c d : Nat) : Int :=
  let vc := sensorValid (sensorOf s c)
  let vd := sensorValid (sensorOf s d)
  if vc && vd then min (reading s c) (reading s d)
  else if vc then reading s c else if vd then reading s d else 0

/-- Inlet, outlet and package flow (R301). -/
def inletOf (s : State) : Int := pairHot s 64 65
def outletOf (s : State) : Int := pairHot s 66 67
def packageFlow (s : State) : Int := pairFlow s 70 71

/-- Zone feedback: the hottest of the zone's four on-die channels, paired (R301, R321). -/
def zoneFeedback (s : State) (k : Nat) : Int := max (pairHot s (4 * k) (4 * k + 1)) (pairHot s (4 * k + 2) (4 * k + 3))

/-- The core rail of a die is up. -/
def dieOn (s : State) (d : Nat) : Bool := railUp s (4 + d)

/-- The die of an on-die channel is powered; other channels have none. -/
def channelDieOn (s : State) (c : Nat) : Bool := if c < 64 then dieOn s (c / 16) else true

/-! ## The filter of a tick (R298, R299) -/

/-- The mean of the valid samples among the four. -/
def decimate (l : List (Option Rat)) : Option Rat :=
  let v := l.filterMap id
  if v.isEmpty then none else some (v.foldl (· + ·) 0 / (v.length : Rat))

/-- The calibration correction GAIN × raw + OFFSET (R302). -/
def corrected (x : Sensor) (raw : Rat) : Rat :=
  raw * (x.gain.toNat : Rat) / 32768 + (sext 16 x.offset.toNat : Rat)

/-- One filter step; an unprimed filter takes its first sample as it is (R298, R299). -/
def filtered (x : Sensor) (v : Rat) : Sensor :=
  if x.primed then { x with y := x.y + (v - x.y) / ((2 ^ x.filtK : Nat) : Rat) }
  else { x with y := v, primed := true }

/-- Flow of a pulse input in mL/min from its last period in island cycles (R298). -/
def pulseFlow (param cycles : Nat) : Rat := (3000000000000 : Rat) / ((cycles * param : Nat) : Rat)

/-- A channel at a control tick: it takes no sample while faulted or in calibration. -/
def sensorTick (c : Nat) (samples : List (Option Rat)) (x : Sensor) : Sensor :=
  if x.fault || x.cal then x
  else if 80 ≤ c then
    match x.period with
    | none => x
    | some p => filtered x (corrected x (pulseFlow x.param p))
  else
    match decimate (samples.take 4) with
    | none => x
    | some r => filtered x (corrected x r)

/-! ## Faults (R300, R301) -/

/-- A channel feeds a closed loop (R304): IN_KIND 1 names it, IN_KIND 2 its zone. -/
def feedsClosed (s : State) (c : Nat) : Bool :=
  s.ctl.slots.toList.any fun x =>
    x.mode == .closed && ((x.inKind == 1 && x.inIndex == c) || (x.inKind == 2 && c < 64 && x.inIndex == c / 4))

/-- The SENSOR_CAL request that waits for channel c's calibration. -/
def calRequest (s : State) (c : Nat) : Option Ctx :=
  s.port.ctx.find? fun e => e.op == 0x901 && e.started && !e.peer && fld (wd e.words 0) 0 7 == c

/-- Word 1 of SENSOR_CAL as applied. -/
def calWord (mode : Bool) (c : Nat) : Word := mkW [(8, bn mode), (0, c)]

/-- The end of a calibration: the waiting request is answered, a deferred one is reported in
SENSOR_CAL_RESULT (R304). -/
def calEnd (c result : Nat) (s : State) : State :=
  let s1 := onSensor c (fun x => { x with cal := false }) s
  match calRequest s c with
  | some e => finish e 0 [calWord false c, w32 result] s1
  | none => raise Ev.sensorCalResult [(1, c), (1, result)] s1

/-- A calibration stops when its channel or the partner that serves for it faults: result 0x03
(R304, R312). -/
def calStopOn (c : Nat) (s : State) : State :=
  let s1 := if (sensorOf s c).cal then calEnd c 3 s else s
  match partner c with
  | none => s1
  | some p => if (sensorOf s1 p).cal then calEnd p 3 s1 else s1

/-- The on-die channels of a die read as faulted from the time its rail is down: nothing is logged, and a
calibration that they carry stops (R300, R304, R312). -/
def dieSensorsOff (d : Nat) (s : State) : State :=
  (List.range 16).foldl (fun s i =>
    let c := 16 * d + i
    if (sensorOf s c).dieOff then s
    else calStopOn c (onSensor c (fun x => { x with fault := true, dieOff := true }) s)) s

/-- SENSOR_FAULT: four consecutive raw samples outside the valid band (R300). An on-die channel of an
unpowered die logs nothing. -/
def execSensorFault (ch : Fin 82) (s : State) : Out :=
  let x := sensorOf s ch.val
  live s
    (if 80 ≤ ch.val then s
     else if !channelDieOn s ch.val then
       calStopOn ch.val (onSensor ch.val (fun x => { x with fault := true, dieOff := true }) s)
     else if x.fault && !x.dieOff then s
     else
       calStopOn ch.val (raise Ev.sensorFault [(1, ch.val)]
         (onSensor ch.val (fun x => { x with fault := true, dieOff := false }) s)))

/-- SENSOR_RECOVERED: 1 s of valid samples, or the first valid sample after the die's rails are good
again, which logs nothing; the filter primes anew (R299, R300), and the slots that read the channel
run in plausibility mode (R335). -/
def execSensorRecovered (ch : Fin 82) (s : State) : Out :=
  let x := sensorOf s ch.val
  live s
    (if x.fault && channelDieOn s ch.val then
       let s1 := onSensor ch.val (fun x => { x with fault := false, dieOff := false, primed := false }) s
       let s2 := s1.onCtl fun c => { c with slots := c.slots.map fun z =>
         if (z.inKind == 1 && z.inIndex == ch.val) || (z.inKind == 2 && ch.val < 64 && z.inIndex == ch.val / 4)
         then { z with plausHold := true } else z }
       if x.dieOff then s2 else raise Ev.sensorRecovered [(1, ch.val)] s2
     else s)

/-- SENSOR_DISAGREE: the valid members of a pair differed by more than 5 K for 100 ms; no reading
changes (R301). -/
def execSensorDisagree (ch : Fin 82) (s : State) : Out :=
  live s
    (match partner ch.val with
     | some p =>
       if ch.val < 70 && sensorValid (sensorOf s ch.val) && sensorValid (sensorOf s p) then
         raise Ev.sensorDisagree [(1, min ch.val p), (1, max ch.val p)] s
       else s
     | none => s)

/-- FLOW_PULSE: a completed pulse period of FP0 or FP1 in island cycles (R298). -/
def execFlowPulse (ch : Fin 2) (cycles : Nat) (s : State) : Out :=
  live s (if cycles = 0 then s else onSensor (80 + ch.val) (fun x => { x with period := some cycles }) s)

/-- FLOW_PULSE_TIMEOUT: no pulse for 1 s reads zero flow until the next one (R298). -/
def execFlowPulseTimeout (ch : Fin 2) (s : State) : Out :=
  live s (onSensor (80 + ch.val) (fun x => { x with period := none, y := 0, primed := true }) s)

/-! ## Calibration (R302 to R304) -/

/-- The field ranges of a channel's entry (R302). -/
def entryOk (c : Nat) (a b : Word) : Bool :=
  let g := fld a 0 16
  let k := fld b 28 4
  let p := fld b 0 16
  decide (0x4000 ≤ g ∧ g ≤ 0xC000 ∧ k ≤ 8) &&
  (if 72 ≤ c ∧ c < 80 then decide (3000 ≤ p ∧ p ≤ 4500)
   else if 80 ≤ c then decide (1 ≤ p ∧ p ≤ 10000) else p == 0)

/-- The checks of a commit: header, CRC, field ranges (R303). -/
def calTableOk (ws : List Word) : Bool :=
  ws.length == 166 && wd ws 0 == 0x43410052#32 &&
  wd ws 165 == crc32c (wordsBytes (ws.take 165)) &&
  (List.range 82).all fun c => entryOk c (wd ws (1 + 2 * c)) (wd ws (2 + 2 * c))

/-- The entries of a table's words (R302). -/
def tableEntries (ws : List Word) : List CalEntry :=
  (List.range 82).map fun c =>
    let a := wd ws (1 + 2 * c)
    let b := wd ws (2 + 2 * c)
    { offset := BitVec.ofNat 16 (fld a 16 16), gain := BitVec.ofNat 16 (fld a 0 16),
      filtK := fld b 28 4, param := fld b 0 16 }

/-- A table taking effect: entries change, filter states stay (R303). -/
def applyTable (l : List CalEntry) (i : IslBlk) : IslBlk :=
  { i with sens := i.sens.mapFinIdx fun c x _ =>
      match l[c]? with
      | none => x
      | some e => { x with offset := e.offset, gain := e.gain, filtK := e.filtK, param := e.param } }

/-- The table of the current copy, or of the other one where that fails its CRC (R293). -/
def calStored (i : IslBlk) : Option (List CalEntry) :=
  if i.calCurB then (i.calB <|> i.calA) else (i.calA <|> i.calB)

/-- A table is written to the copy that is not current, which becomes current (R293). -/
def writeCalCopy (l : List CalEntry) (i : IslBlk) : IslBlk :=
  if i.calCurB then { i with calA := some l, calCurB := false } else { i with calB := some l, calCurB := true }

/-- The stored table with a channel's new OFFSET and GAIN (R304). -/
def recalibrated (c : Nat) (offset gain : BitVec 16) (i : IslBlk) : List CalEntry :=
  ((calStored i).getD calDefaults).mapIdx fun j e => if j = c then { e with offset := offset, gain := gain } else e

/-- SENSOR_CAL's effect (R303, R304, R312). -/
def doSensorCal (e : Ctx) (s : State) : State × Answer :=
  let w := wd e.words 0
  let c := min 81 (fld w 0 7)
  let mode := bitOf w 8
  let w1 := calWord mode c
  if mode then
    if allPorts.any fun q => (s.win q).active && (s.win q).target == 3 then (s, some (2, [w1]))
    else
      match s.isl.calLoaded with
      | none => (s, some (9, [w1]))
      | some ws =>
        if calTableOk ws then
          (s.onIsl fun i => writeCalCopy (tableEntries ws) { i with calCommit := some (tableEntries ws), calLoaded := none }, some (0, [w1]))
        else (s.onIsl fun i => { i with calLoaded := none }, some (9, [w1]))
  else if 80 ≤ c then (s, some (6, [w1, 0]))
  else
    let x := sensorOf s c
    let p := (partner c).getD c
    let pOk := (partner c).isSome && sensorValid (sensorOf s p)
    if x.cal || ((partner c).isSome && (sensorOf s p).cal) then (s, some (2, [w1, 0]))
    else if !pOk && feedsClosed s c then
      (onSensor c (fun x => { x with deferred := true }) s, some (1, [w1, 0]))
    else
      let s1 := onSensor c (fun x => { x with cal := true }) s
      let e' := { e with words := [calWord false c] }
      (s1.onPort fun b => { b with ctx := replaceCtx e e' b.ctx }, none)

/-- SENSOR_CAL. -/
def execSensorCal (r : Req) (s : State) : Out := opcode 0x901 doSensorCal r s

/-- CALIBRATION_COMPLETE: the reference measurement ends with a result code, and with a new OFFSET and
GAIN when it reads 0x00 (R304). -/
def execCalibrationComplete (ch : Fin 82) (result : Nat) (offset gain : BitVec 16) (s : State) : Out :=
  live s
    (if (sensorOf s ch.val).cal then
       if result = 0 then
         calEnd ch.val 0 ((onSensor ch.val (fun x => { x with offset := offset, gain := gain }) s).onIsl
           fun i => writeCalCopy (recalibrated ch.val offset gain i) i)
       else calEnd ch.val result s
     else s)

/-- CAL_TABLE_LOAD: opens the window inbound for 166 words (R320). -/
def execCalTableLoad (r : Req) (s : State) : Out :=
  opcode 0x902 (fun e s =>
    if windowBusy s e.port 3 0 then (s, some (2, [166#32]))
    else
      ((openWindow e.port e.tag 3 0 false 166 [] s).onIsl fun i => { i with calLoaded := none },
       some (0, [166#32]))) r s

/-! ## Forecast tiers (R305 to R308) -/

/-- The nearest integer to a quotient, halves up. -/
def roundDiv (a b : Nat) : Nat := if b = 0 then 0 else (2 * a + b) / (2 * b)

/-- Zone powers scaled down so that they sum to at most a limit in W (R22, R306). -/
def limitZones (w : Nat) (l : List Nat) : List Nat :=
  let t := l.foldl (· + ·) 0
  if t ≤ 100 * w then l else l.map fun x => x * (100 * w) / t

/-- An entry that the MP has not delivered: the last known lowest active limit, evenly (R307). -/
def undelivered (s : State) : List Nat := List.replicate 16 (s.isl.lastLimit * 100 / 16)

/-- Where the forecast comes from (R307): one set of zone powers held over the horizon, or, while it is none, the
frames that the MP has delivered; a stale forecast keeps those. -/
def flatSource (s : State) : Option (List Nat) :=
  if !inS0S1 s then some (List.replicate 16 (roundDiv (s.isl.zoneMeas.foldl (· + ·) 0) 16))
  else if s.last.st = .empty then some (List.replicate 16 10000)
  else if (s.last.st == .paused || s.last.st == .faulted) && !s.isl.stale then some s.isl.zoneMeas
  else none

/-- The frame of a list in which an instant falls, counted in µs from the start of the first. -/
def frameAt : Nat → List (Nat × List Nat) → Option (List Nat)
  | _, [] => none
  | t, (p, z) :: r => if t < p then some z else frameAt (t - p) r

/-- The frames of a list that begin in [lo, hi), with t the start of the first. -/
def framesIn (lo hi : Nat) : Nat → List (Nat × List Nat) → List (List Nat)
  | _, [] => []
  | t, (p, z) :: r =>
    if hi ≤ t then [] else if lo ≤ t then z :: framesIn lo hi (t + p) r else framesIn lo hi (t + p) r

/-- The length of a list of frames in µs. -/
def framesUs (l : List (Nat × List Nat)) : Nat := (l.map fun x => x.1).foldl (· + ·) 0

/-- The place in the present frame, in µs from its start, of the control tick that has come last: entries are counted
in frames, so a tick in a stretched frame stays in it (R306). -/
def tickPlace (s : State) : Nat :=
  match s.isl.ahead with
  | [] => 0
  | x :: _ => min (100 * (s.isl.tickInFrame - 1)) (x.1 - 1)

/-- The near-tier entry of zone k, j control ticks ahead, in 0.01 W (R306). -/
def nearEntry (s : State) (k j : Nat) : Nat :=
  let z := match flatSource s with
    | some z => z
    | none => (frameAt (tickPlace s + 100 * j) s.isl.ahead).getD (undelivered s)
  (limitZones s.pwr.inForceW z).getD k 0

/-- The mean of zone k over sets of zone powers and n more undelivered ones. -/
def zoneMean (s : State) (k : Nat) (l : List (List Nat)) (n : Nat) : Nat :=
  let w (z : List Nat) : Nat := (limitZones s.pwr.inForceW z).getD k 0
  roundDiv ((l.map w).foldl (· + ·) 0 + n * w (undelivered s)) (l.length + n)

/-- The far-tier bin b of zone k with frames of p µs: the mean over the frames that begin in it (R306). -/
def farBin (s : State) (p k b : Nat) : Nat :=
  match flatSource s with
  | some z => (limitZones s.pwr.inForceW z).getD k 0
  | none =>
    let lo := 10000 * b
    let hi := lo + 10000
    let len := framesUs s.isl.ahead
    zoneMean s k (framesIn lo hi 0 s.isl.ahead)
      (if hi ≤ len then 0 else (hi - max lo len + p - 1) / max 1 p)

/-- The package forecast of a bin in 0.01 W. -/
def binSum (s : State) (p b : Nat) : Nat := ((List.range 16).map fun k => farBin s p k b).foldl (· + ·) 0

/-- The forecast mean of bins [lo, hi), in W. -/
def forecastMean (s : State) (p lo hi : Nat) : Nat :=
  roundDiv (((List.range (hi - lo)).map fun i => binSum s p (lo + i)).foldl (· + ·) 0) (100 * (hi - lo))

/-- Package power from the PMBus readings of rails 0 to 8, in 0.01 W (R260, R529). -/
def pmbusPower (s : State) : Nat :=
  ((List.range 9).map fun r => vget s.pwr.vout r 0 * vget s.pwr.iout r 0).foldl (· + ·) 0 / 100

end Sys2Proof.Machine
end

