-- ==== Sys2Proof/Machine/LastImage.lean ====
section
/-! DEFINITION. Reading a Last image: header, slots, descriptors and annotations (R74 to R88), and the
zone energies that follow from them (R305). -/

namespace Sys2Proof.Machine

/-- The words of an image from an offset. -/
def imgWords (img : List Word) (off n : Nat) : List Word := (img.drop off).take n

/-- VERSION of an image (R78). -/
def imgVersion (img : List Word) : Nat := fld (wd img 1) 0 8

/-- LOOP_M1, PERIOD and SCOPE; a version 3 image counts as SCOPE 1 (R78, R88). -/
def imgLoopM1 (img : List Word) : Nat := fld (wd img 3) 0 16
def imgPeriod (img : List Word) : Nat := fld (wd img 3) 16 2
def imgScope (img : List Word) : Bool := imgVersion img == 3 || bitOf (wd img 3) 18

/-- Members of the job (R78). -/
def imgMembers (img : List Word) : Nat := fld (wd img 6) 0 11 + 1

/-- SEED; 0 for a version 3 image (R63, R78, R88). -/
def imgSeed (img : List Word) : Nat :=
  if imgVersion img = 3 then 0 else of64 (wd img 7) (wd img 8)

/-- P in µs of a PERIOD code (R74). -/
def periodUs (code : Nat) : Nat := 25 * 2 ^ code

/-- ENERGY_LSB in µJ. -/
def imgLsb (img : List Word) : Nat := fld (wd img 9) 0 8

/-- Offsets of the sections (R78). -/
def slotOff (img : List Word) : Nat := (wd img 10).toNat
def slotCount (img : List Word) : Nat := (wd img 11).toNat
def descOff (img : List Word) : Nat := (wd img 12).toNat
def annotOff (img : List Word) : Nat := (wd img 13).toNat
def sigOff (img : List Word) : Nat := (wd img 14).toNat

/-- Words of an annotation record (R85, R88). -/
def annotLen (img : List Word) : Nat := if imgVersion img = 3 then 32 else 34

/-- A slot entry (R79). -/
structure SlotE where
  first : Nat
  last : Nat
  kind : Nat
  start : Nat
  len : Nat
  cluster : Nat
  unit : Nat
  desc : Nat
deriving DecidableEq, Repr

/-- The slot entry at word offset o. -/
def slotAt (img : List Word) (o : Nat) : SlotE :=
  let ws := imgWords img o 4
  { first := fld (wd ws 0) 0 16, last := fld (wd ws 0) 16 16, kind := fld (wd ws 1) 28 4,
    start := fld (wd ws 1) 0 12, len := fld (wd ws 1) 12 12 + 1, cluster := fld (wd ws 2) 8 8,
    unit := fld (wd ws 2) 0 8, desc := fld (wd ws 3) 0 16 }

/-- The slot table. -/
def imgSlots (img : List Word) : List SlotE :=
  (List.range (slotCount img)).map fun i => slotAt img (slotOff img + 4 * i)

/-- The annotation record of frame f. -/
def annotRec (img : List Word) (f : Nat) : List Word := imgWords img (annotOff img + annotLen img * f) (annotLen img)

/-- A byte of a record. -/
def recByte (rec_ : List Word) (b : Nat) : Nat := fld (wd rec_ (b / 4)) (8 * (b % 4)) 8

/-- ENERGY[n] and SLACK[n] of a record (R85). -/
def recEnergy (rec_ : List Word) (n : Nat) : Nat := recByte rec_ (2 * n)
def recSlack (rec_ : List Word) (n : Nat) : Nat := recByte rec_ (2 * n + 1)

/-- Die energy of die d in µJ: DIE_ENERGY × ENERGY_LSB, or 105 W × P for version 3 (R85, R88). -/
def dieUj (img rec_ : List Word) (d : Nat) : Nat :=
  if imgVersion img = 3 then 105 * periodUs (imgPeriod img)
  else imgLsb img * fld (wd rec_ (32 + d / 2)) (16 * (d % 2)) 16

/-- The annotated energy of frame f in µJ (R85). -/
def frameUj (img : List Word) (f : Nat) : Nat :=
  let r := annotRec img f
  imgLsb img * ((List.range 64).map (recEnergy r)).foldl (· + ·) 0 +
    ((List.range 4).map (dieUj img r)).foldl (· + ·) 0

/-- Four times the annotated energy of zone k in frame f, in µJ (R305). -/
def zoneUj4 (img : List Word) (f k : Nat) : Nat :=
  let r := annotRec img f
  4 * imgLsb img * (recEnergy r (4 * k) + recEnergy r (4 * k + 1) + recEnergy r (4 * k + 2) + recEnergy r (4 * k + 3)) +
    dieUj img r (k / 4)

/-- The zone powers of frame f in 0.01 W with a planned package filler in mW, spread evenly over the
zones (R281, R305, R308). -/
def zonePowers (img : List Word) (f fillerMw : Nat) : List Nat :=
  let p := periodUs (imgPeriod img)
  (List.range 16).map fun k => roundDiv (4000 * zoneUj4 img f k + fillerMw * p) (160 * p)

/-- The code of the frame period in force: a Last's own while it is RUNNING or PAUSED, that of the Last being
replaced in a switch frame, else 100 µs (R76, R94). -/
def framePeriodCode (s : State) : Nat :=
  if !lastBusy s then 2 else if s.last.inSwitch then s.last.oldPeriod else imgPeriod s.last.active

/-- P in force, in µs. -/
def framePeriod (s : State) : Nat := periodUs (framePeriodCode s)

/-- The clusters that have a CORE slot in frame f. -/
def coreClusters (img : List Word) (f : Nat) : List Nat :=
  ((imgSlots img).filter fun e => e.kind == 0 && decide (e.first ≤ f ∧ f ≤ e.last)).map fun e => e.cluster

/-- The length in words of the loop's annotation, LOOP_M1 + 1 frames. -/
def loopFrames (img : List Word) : Nat := imgLoopM1 img + 1

end Sys2Proof.Machine
end

