-- ==== Sys2Proof/Machine/Loops.lean ====
section
/-! DEFINITION. The control engine: slots, set-point profile, compensator, integrator, feed-forward,
repetitive controller, supervision, test runs and the loop opcodes (R321 to R344). -/

namespace Sys2Proof.Machine

/-! ## Rounding -/

/-- A quotient by a positive divisor, to the nearest integer, ties to even. -/
def rneDivPos (a : Int) (b : Nat) : Int :=
  if b = 0 then 0
  else
    let q := a.fdiv b
    let r := a.fmod b
    if 2 * r < b then q else if 2 * r > b then q + 1 else if q % 2 = 0 then q else q + 1

/-- The same with a divisor of either sign. -/
def rneDiv (a b : Int) : Int := if b < 0 then rneDivPos (-a) b.natAbs else rneDivPos a b.natAbs

/-- A number with n fraction bits rounded to an integer (R325, R326). -/
def rne (a : Int) (n : Nat) : Int := rneDivPos a (2 ^ n)

/-- Saturation of a signal to ±(2^31 − 1) (R325). -/
def sat31 (x : Int) : Int := clampI (-(2 ^ 31 - 1)) (2 ^ 31 - 1) x

/-- The signed number of a 32-bit word; a word of a signed number. -/
def s32 (w : Word) : Int := sext 32 w.toNat
def ofS32 (x : Int) : Word := w32 (ofInt 32 x)

/-! ## Inputs and registers (R321, R339 to R343) -/

/-- A slot; a slot changed. -/
def slotOf (s : State) (i : Nat) : Slot := vget s.ctl.slots i {}
def onSlot (i : Nat) (f : Slot → Slot) (s : State) : State := s.onCtl fun c => { c with slots := vmod c.slots i f }

/-- A slot's input value (R321); a tachometer saturates at 32,767 (R359). -/
def slotInput (s : State) (x : Slot) : Int :=
  if x.inKind = 1 then reading s x.inIndex
  else if x.inKind = 2 then zoneFeedback s x.inIndex
  else if x.inKind = 3 then (min 32767 (vget s.vlv.tach x.inIndex {}).rpm : Nat)
  else if x.inKind = 4 then
    sext 16 (leNat ((objOf s (decide (128 ≤ x.inIndex)) (x.inIndex % 128)).data.take 2))
  else 0

/-- The code of a mode (R323). -/
def LoopMd.code : LoopMd → Nat
  | .openHold => 0
  | .openManual => 1
  | .closed => 2
  | .test => 3

/-- The output limits in signal units (R325). -/
def uMax (x : Slot) : Int := (x.outMax : Int) * 512
def uMin (x : Slot) : Int := (x.outMin : Int) * 512

/-- LOOP_STAT_s (R342). -/
def regLoopStat (x : Slot) : Word :=
  mkW [(31, bn x.fault), (30, bn x.sup), (29, bn x.steward), (28, bn x.suspended), (20, min 50 x.periods),
       (13, x.mode.code), (12, bn (x.ran && x.u == uMax x)), (11, bn (x.ran && x.u == uMin x)), (4, x.inKind), (0, x.outKind)]

/-- LOOP_SP_s, LOOP_TARGET_s, LOOP_OUT_s (R329, R343). -/
def regLoopSp (x : Slot) : Word := ofS32 (x.r.fdiv (2 ^ 32))
def regLoopTarget (x : Slot) : Word := w32 (ofInt 16 x.target)
def regLoopOut (x : Slot) : Word := w32 x.out

/-- Entries of the repetitive pool that a slot takes (R331). -/
def poolOf (x : Slot) : Nat := if x.repEn then roundUp x.repLen 16 else 0

/-- Pool in use. -/
def poolUsed (s : State) : Nat := (s.ctl.slots.toList.map poolOf).foldl (· + ·) 0

/-- CTL_STAT (R340). -/
def regCtlStat (s : State) : Word :=
  mkW [(17, s.ctl.capture.length), (16, bn s.ctl.test.isSome), (11, s.ctl.testSlot), (0, poolUsed s / 16)]

/-- A read of the CTL block. -/
def regCtl (s : State) (off : Nat) : Word :=
  if off = 0x000 then regCtlStat s
  else if off = 0x004 then s.ctl.event
  else if off = 0x008 then s.ctl.sat
  else if off = 0x00C then s.ctl.implaus
  else if 0x100 ≤ off ∧ off < 0x300 then
    let x := slotOf s ((off - 0x100) / 16)
    let o := off % 16
    if o = 0 then regLoopStat x else if o = 4 then regLoopSp x
    else if o = 8 then regLoopTarget x else regLoopOut x
  else 0

/-- A write of the CTL block: the W1C registers. -/
def ctlWrite (off : Nat) (be : BitVec 4) (w : Word) (s : State) : State :=
  if off = 0x004 then s.onCtl fun c => { c with event := wW1C 3#32 c.event w be }
  else if off = 0x008 then s.onCtl fun c => { c with sat := wW1C 0xFFFFFFFF#32 c.sat w be }
  else if off = 0x00C then s.onCtl fun c => { c with implaus := wW1C 0xFFFFFFFF#32 c.implaus w be }
  else s

/-! ## Set-point profile (R329) -/

/-- The stop distance from v and a under braking, with fuel for the loop. -/
def stopLoop (vmax amax jmax sg : Int) : Nat → Int → Int → Int → Int
  | 0, _, _, acc => sg * acc
  | n + 1, v, a, acc =>
    let a' := a + clampI (-jmax) jmax (-sg * amax - a)
    let v' := clampI (-vmax) vmax (v + a')
    if sg * v' ≤ 0 then sg * acc else stopLoop vmax amax jmax sg n v' a' (acc + v')

/-- stop_distance(v, a). The braking of any representable v ends long before the fuel does. -/
def stopDistance (vmax amax jmax v a : Int) : Int :=
  if v = 0 then 0 else stopLoop vmax amax jmax v.sign (2 ^ 80) v a 0

/-- One step of the profile generator. -/
def profileStep (x : Slot) : Slot :=
  let tgt := x.target * 2 ^ 48
  let d := tgt - x.r
  if x.vmax = 0 then { x with r := tgt, v := 0, a := 0 }
  else
    let vm : Int := (x.vmax : Int) * 2 ^ 32
    if x.amax = 0 ∨ x.jmax = 0 then
      { x with r := if (d.natAbs : Int) ≤ vm then tgt else x.r + d.sign * vm, v := 0, a := 0 }
    else
      let am : Int := (x.amax : Int) * 2 ^ 16
      let jm : Int := x.jmax
      let stop := stopDistance vm am jm x.v x.a
      let goal : Int :=
        if d.sign * x.v < 0 ∨ (d.natAbs : Int) ≤ stop then -x.v.sign * am
        else if (x.v.natAbs : Int) < vm then d.sign * am else 0
      let a := x.a + clampI (-jm) jm (goal - x.a)
      let v := clampI (-vm) vm (x.v + a)
      if (d.natAbs : Int) ≤ d.sign * v then { x with r := tgt, v := 0, a := 0 }
      else { x with r := x.r + v, v := v, a := a }

/-! ## The computation of a closed slot (R324 to R330) -/

/-- The error e of input y (R325). -/
def slotError (x : Slot) (y : Int) : Int :=
  let d := y * 2 ^ 16 - x.r.fdiv (2 ^ 32)
  sat31 (((if x.sign then -d else d) * 2 ^ x.eshift).fdiv (2 ^ 16))

/-- b3 and a3 count as 0 with ORDER 0 (R326). -/
def b3Of (x : Slot) : Int := if x.order then x.b3 else 0
def a3Of (x : Slot) : Int := if x.order then x.a3 else 0

/-- The compensator's exact sum with 54 fraction bits (R326). -/
def compSum (x : Slot) (e : Int) : Int :=
  (x.b0 * e + x.b1 * x.e1 + x.b2 * x.e2 + b3Of x * x.e3) * 2 ^ 27 -
    (x.a1 * x.c1 + x.a2 * x.c2 + a3Of x * x.c3)

/-- C(1) × e with 27 fraction bits (R324). -/
def dcOutput (x : Slot) (e : Int) : Int :=
  let den := 2 ^ 27 + x.a1 + x.a2 + a3Of x
  if den = 0 then 0 else satInt 64 (rneDiv ((x.b0 + x.b1 + x.b2 + b3Of x) * e * 2 ^ 27) den)

/-- Feed-forward from the near-tier power P_lead in 0.01 W (R325). -/
def feedForward (x : Slot) (pLead : Nat) : Int :=
  if x.ffEn = true ∧ x.inKind = 2 then sat31 (rne (x.kff * ((pLead : Int) * 2 ^ x.fshift)) 27) else 0

/-- The period of the repetitive controller in frames (R330). -/
def repPeriod (s : State) (x : Slot) : Nat := if x.repFrames = 0 then loopFrames s.last.active else x.repFrames

/-- The bin of frame F (R330). -/
def repBin (s : State) (x : Slot) : Nat :=
  let p := repPeriod s x
  if p = 0 then 0 else (s.last.f % p) * x.repLen / p

/-- The period under way, counted from the Last's start; DESIGN CHOICE: a period that the loop's end cuts short
counts as a whole one (R330, notes/assumptions/160). -/
def repIndex (s : State) (x : Slot) : Nat :=
  let p := max 1 (repPeriod s x)
  s.last.pass.toNat * ((loopFrames s.last.active + p - 1) / p) + s.last.f / p

/-- The periods that have completed since the last tick count (R330). -/
def repCount (s : State) (x : Slot) : Slot :=
  if s.last.st = .running then
    { x with periods := min 50 (x.periods + (repIndex s x - x.lastF)), lastF := repIndex s x }
  else x

/-- The repetitive output; 0 while the Last is not RUNNING (R330). -/
def repOut (s : State) (x : Slot) : Int :=
  if x.repEn = true ∧ s.last.st = .running then x.table.getD ((repBin s x + x.repLead) % max 1 x.repLen) 0 else 0

/-- A table entry set; the table is kept at REP_LEN entries. -/
def tableSet (n : Nat) (t : List Int) (i : Nat) (v : Int) : List Int :=
  (List.range n).map fun j => if j = i then v else t.getD j 0

/-- The learning of a tick (R330): not while u stands at the limit toward which the update pushes. -/
def repLearn (s : State) (x : Slot) (uPrev e : Int) : Slot :=
  if x.repEn = true ∧ s.last.st = .running then
    let b := repBin s x
    let q := x.table.getD b 0
    let decay := if x.forget = 0 then 0 else q.fdiv (2 ^ x.forget)
    let gain := (min (x.periods + 1) 50 : Nat) * x.kr * e
    let push := gain - decay * (50 * 2 ^ 27)
    if (0 < push ∧ uPrev = uMax x) ∨ (push < 0 ∧ uPrev = uMin x) then x
    else { x with table := tableSet x.repLen x.table b (satInt 32 (q - decay + rneDiv gain (50 * 2 ^ 27))) }
  else x

/-- The integrator with 27 fraction bits (R328). -/
def integrate (x : Slot) (e : Int) : Int :=
  let d := x.ki * e
  let d' := if (x.u = uMax x ∧ 0 < d) ∨ (x.u = uMin x ∧ d < 0) then 0 else d
  clampI (uMin x * 2 ^ 27) (uMax x * 2 ^ 27) (x.i + d')

/-- The states of a slot at the tick of closing (R324). DEDUCED: the held output is the applied Q1.15
value (notes/assumptions/42). -/
def closeStates (x : Slot) (e ff q : Int) : Slot :=
  let c1 := dcOutput x e
  let held : Int := (x.out : Int) * 512
  { x with e1 := e, e2 := e, e3 := e, c1 := c1, c2 := c1, c3 := c1,
           i := clampI (uMin x * 2 ^ 27) (uMax x * 2 ^ 27) (held * 2 ^ 27 - c1 - ff * 2 ^ 27 - q * 2 ^ 27) }

/-- The computation of a closed slot from its error; `closing` is the tick of closing (R324 to R328). -/
def compute (s : State) (x0 : Slot) (closing : Bool) (e ff : Int) : Slot :=
  let q := repOut s x0
  let x := if closing then closeStates x0 e ff q else { x0 with i := integrate x0 e }
  let sum := compSum x e
  let c := sat31 (rne sum 54)
  let u := clampI (uMin x) (uMax x) (c + rne x.i 27 + ff + q)
  let x1 := repLearn s x x0.u e
  { x1 with e1 := e, e2 := x.e1, e3 := x.e2, c1 := satInt 64 (rne sum 27), c2 := x.c1, c3 := x.c2,
            u := u, next := (u.fdiv 512).toNat }

/-! ## Supervision (R335, R336) -/

/-- The first-order model's step (R336), with ŷ in 27 fraction bits. -/
def modelStep (s : State) (x : Slot) : Int :=
  let pz : Int := if x.inKind = 2 then (s.isl.zoneMeas.getD x.inIndex 0 : Nat) else 0
  let inlet : Int := if x.inKind = 2 then inletOf s else 0
  let yss := rne (x.mY0 * 2 ^ 27 + x.mGu * x.u.fdiv 512 + x.mGp * pz + inlet * 2 ^ 27) 27
  rne (x.yhat * 2 ^ x.mTau + (yss * 2 ^ 27 - x.yhat)) x.mTau

/-- The supervision counts of a tick for a CLOSED or TEST slot with input y. DEDUCED: the tick that primes the
model makes no step of it (notes/assumptions/137). -/
def supervise (s : State) (y : Int) (x : Slot) : Slot :=
  if x.mode = .closed ∨ x.mode = .test then
    let plaus := s.isl.plausWindow || x.mode == .test || x.plausHold
    if plaus then
      let yh := if x.prime || !x.sup then y * 2 ^ 27 else modelStep s x
      let out := (((y * 2 ^ 27 - yh).natAbs : Int) > (x.mBand : Int) * 2 ^ 27)
      { x with sup := true, prime := false, yhat := yh, atLimit := 0,
               satRaised := x.satRaised && decide (x.u = uMax x ∨ x.u = uMin x)
               outOfBand := if out then x.outOfBand + 1 else 0 }
    else
      let lim := x.u = uMax x ∨ x.u = uMin x
      { x with sup := false, prime := false, outOfBand := 0, atLimit := if lim then x.atLimit + 1 else 0,
               satRaised := x.satRaised && decide lim }
  else { x with sup := s.isl.plausWindow || x.plausHold, outOfBand := 0, atLimit := 0 }

/-! ## Suspension (R337) -/

/-- The slot drives a valve or a PWM output. -/
def drivesCooling (x : Slot) : Bool := x.outKind == 1 || x.outKind == 2 || x.outKind == 3

/-- The slot's zone lies on an unpowered die. -/
def zoneDieOff (s : State) (x : Slot) : Bool := x.inKind == 2 && !dieOn s (x.inIndex / 4)

/-- The outputs are overridden: Toecap's forced state or a rail-failure shutdown. -/
def overridden (s : State) (x : Slot) : Bool := drivesCooling x && (s.vlv.forcedToecap || s.vlv.forcedRail)

/-- The slot is suspended. -/
def suspendedNow (s : State) (x : Slot) : Bool := overridden s x || zoneDieOff s x

/-! ## Test runs (R333, R334) -/

/-- The polynomial taps of a PRBS order code: order and second tap. -/
def prbsTaps (o : Nat) : Nat × Nat :=
  if o = 0 then (7, 6) else if o = 1 then (9, 5) else if o = 2 then (11, 9) else (15, 14)

/-- One advance of the PRBS register. DESIGN CHOICE: a shift register whose new bit enters at the low end,
read at its top bit (notes/assumptions/43). -/
def prbsStep (o r : Nat) : Nat :=
  let t := prbsTaps o
  let b := (r / 2 ^ (t.1 - 1) + r / 2 ^ (t.2 - 1)) % 2
  (2 * r + b) % 2 ^ t.1

/-- The seed of all ones. -/
def prbsSeed (o : Nat) : Nat := 2 ^ (prbsTaps o).1 - 1

/-- The run length in ticks. -/
def testTicks (t : TestRun) : Nat := t.length * t.dec

/-- π/2 with 80 fraction bits. -/
def halfPi80 : Nat := 1898976236818169290393997

/-- The terms of the sine series at z with 80 fraction bits, from the term of order 2k + 1. -/
def sineSeries (z : Nat) : Nat → Nat → Int → Int → Int
  | 0, _, _, acc => acc
  | n + 1, k, term, acc =>
    let t := -(term * ((z * z : Nat) : Int)).fdiv (2 ^ 160 * ((2 * k + 2) * (2 * k + 3) : Nat))
    sineSeries z n (k + 1) t (acc + t)

/-- sin(π/2 × r/d) for r ≤ d, with 80 fraction bits and an error below 2^-70. -/
def sineQuarter (r d : Nat) : Int :=
  let z := halfPi80 * r / d
  sineSeries z 24 0 z z

/-- sin(2π × num/den), with 80 fraction bits. -/
def sine80 (num : Int) (den : Nat) : Int :=
  let n := (num.emod den).toNat
  let q := 4 * n / den
  let r := 4 * n % den
  let m := if q % 2 = 0 then sineQuarter r den else sineQuarter (den - r) den
  if q < 2 then m else -m

/-- A value with 80 fraction bits as an integer: the nearest one where no more than the evaluation's error parts
them, else one of its two neighbours. FREE VALUE: that rounding, for which the spec states no rule
(notes/assumptions/41). -/
def round80 (v : Int) : Int :=
  let n := (v + 2 ^ 79).fdiv (2 ^ 80)
  if (v - n * 2 ^ 80).natAbs < 2 ^ 30 then n else quant (mkRat v (2 ^ 80))

/-- The chirp of R333: AMP × sin φ[n], with φ[n] ÷ 2π = (2M·F0·n + (F1 − F0)·n²) ÷ (2M × 10^5) in tenths of a
hertz and ticks of 100 µs. -/
def chirp (t : TestRun) : Int :=
  let m := testTicks t
  round80 (t.amp * sine80 (2 * m * t.f0 * t.n + ((t.f1 : Int) - t.f0) * t.n ^ 2) (2 * m * 100000))

/-- The test signal of tick n in Q1.15 (R333). -/
def testSignal (t : TestRun) : Int :=
  let amp : Int := t.amp
  if t.kind = 0 then (if 2 * t.n < testTicks t then 0 else amp)
  else if t.kind = 1 then chirp t
  else if t.prbs / 2 ^ ((prbsTaps t.order).1 - 1) % 2 = 1 then amp else -amp

/-- A pair of on-die channels with no valid member. -/
def pairLost (s : State) (c : Nat) : Bool := !sensorValid (sensorOf s c) && !sensorValid (sensorOf s (c + 1))

/-- The slot's input reads a faulted value (R300, R301). -/
def inputFault (s : State) (x : Slot) : Bool :=
  (x.inKind == 1 && (sensorOf s x.inIndex).fault) ||
    (x.inKind == 2 && (pairLost s (4 * x.inIndex) || pairLost s (4 * x.inIndex + 2)))

/-- The input has passed LIMIT in the unsafe direction; a faulted input has for SIGN = 0 (R334, R338). -/
def limitPassed (s : State) (x : Slot) (t : TestRun) (y : Int) : Bool :=
  if x.sign then y < t.limit else t.limit < y || inputFault s x

/-- A slot put in OPEN_HOLD at a value. -/
def holdAt (v : Nat) (x : Slot) : Slot :=
  { x with mode := .openHold, pendMode := none, closing := false, next := v, u := (v : Int) * 512 }

/-- TEST_ABORT: the slot holds SAFE_OUT (R334). -/
def testAbort (s : State) : State :=
  match s.ctl.test with
  | none => s
  | some t =>
    raise Ev.loopTestAbort [(1, t.slot)]
      ((onSlot t.slot (fun x => holdAt x.safeOut x) s).onCtl fun c =>
        { c with event := setBit c.event 1, test := none })

/-- A slot that leaves its configuration ends the test that it runs or that the next tick would start. DESIGN
CHOICE: as an abort (R334, notes/assumptions/168). -/
def endTestOf (i : Nat) (s : State) : State := s.whenB (s.ctl.test.any fun t => t.slot == i) testAbort

/-- A test's tick: a sample every DEC-th tick, and the signal's next step. -/
def testAdvance (u y : Int) (t : TestRun) (c : CtlBlk) : CtlBlk :=
  let n := t.n + 1
  { c with capture := if n % t.dec = 0 ∧ c.capture.length < 16384 then c.capture ++ [(u, y)] else c.capture
           test := some { t with n := n, prbs := if t.hold ≠ 0 ∧ n % t.hold = 0 then prbsStep t.order t.prbs
                                                 else t.prbs } }

/-! ## The tick (R321) -/

/-- The mode change of a slot taken at a tick (R323, R324). -/
def takeMode (x : Slot) : Slot :=
  match x.pendMode with
  | none => x
  | some m =>
    if m = .closed ∧ x.mode ≠ .closed then
      { x with mode := .closed, pendMode := none, closing := true, prime := true,
               plausHold := x.plausHold || x.afterFault, afterFault := false }
    else { x with mode := m, pendMode := none, closing := x.closing && m == .closed, prime := x.prime || m == .test }

/-- A slot in TEST at a tick. -/
def testTick (i : Nat) (y : Int) (x : Slot) (s : State) : State :=
  match s.ctl.test with
  | none => onSlot i (fun _ => x) s
  | some t =>
    if t.slot ≠ i then onSlot i (fun _ => x) s
    else if limitPassed s x t y then testAbort (onSlot i (fun _ => x) s)
    else if testTicks t ≤ t.n then onSlot i (fun _ => x) s
    else
      let v := clampI x.outMin x.outMax ((t.base : Int) + testSignal t)
      let u := v * 512
      (onSlot i (fun _ => supervise s y { x with u := u, next := v.toNat }) s).onCtl (testAdvance u y t)

/-- At the close after a takeover the integrator derived is held against the saved one: more than 1/16 of
full scale apart logs STEWARD_STATE_SKEW (R442). -/
def skewCheck (i : Nat) (x : Slot) (derived : Int) (s : State) : State :=
  match x.savedI with
  | some v =>
    if x.closing && decide (2 ^ 20 * 2 ^ 27 < (derived - v * 2 ^ 27).natAbs) then
      raise Ev.stewardStateSkew [(1, i)] s
    else s
  | none => s

/-- What a tick takes up of a slot before it computes: its mode, the output that it drives from here on and the
periods that have completed (R323, R327, R330). -/
def slotTaken (s : State) (x : Slot) : Slot :=
  repCount s { takeMode x with actKind := x.outKind, actIndex := x.outIndex, ran := true }

/-- The tick of slot i. -/
def slotTick (s : State) (i : Nat) : State :=
  let x0 := slotTaken s (slotOf s i)
  let y := slotInput s x0
  if suspendedNow s x0 then
    onSlot i (fun _ =>
      let x := { x0 with suspended := true, outOfBand := 0, atLimit := 0 }
      if overridden s x0 then { x with next := 0x8000, u := 0x1000000 }
      else { x with next := x0.safeOut, u := (x0.safeOut : Int) * 512 }) s
  else
    let resumed := x0.suspended
    let x1 := { x0 with suspended := false, closing := x0.closing || (resumed && x0.mode == .closed),
                        plausHold := x0.plausHold || (resumed && x0.mode == .closed),
                        prime := x0.prime || (resumed && x0.mode == .closed) }
    let x := if x1.closing && x1.mode == .closed then x1 else profileStep x1
    match x.mode with
    | .openHold => onSlot i (fun _ => supervise s y { x with u := (x.next : Int) * 512 }) s
    | .openManual => onSlot i (fun _ => supervise s y { x with next := x.manual, u := (x.manual : Int) * 512 }) s
    | .test => testTick i y x s
    | .closed =>
      let e := slotError x y
      let ff := feedForward x (if x.inKind = 2 then nearEntry s x.inIndex s.isl.lead else 0)
      skewCheck i x (closeStates x e ff (repOut s x)).i
        (onSlot i (fun _ => supervise s y { compute s x x.closing e ff with closing := false, savedI := none }) s)

/-- A deferred calibration starts when no closed loop uses its channel any more (R304, R324). -/
def startDeferred (s : State) : State :=
  (List.range 82).foldl (fun s c =>
    if (sensorOf s c).deferred && !feedsClosed s c then onSensor c (fun x => { x with deferred := false, cal := true }) s
    else s) s

/-- The slots of a tick in ascending order. -/
def loopsTick (s : State) : State := startDeferred ((List.range 32).foldl slotTick s)

/-- Bytes 0 and 1 of a send object (R321). -/
def putObj16 (v : Nat) (o : Obj) : Obj := { o with data := leBytes 2 v ++ o.data.drop 2 }

/-- One slot's output applied: LOOP_OUT, and the shadow duty or the send object it drives. -/
def applySlot (s : State) (i : Nat) : State :=
  let x := slotOf s i
  let s1 := onSlot i (fun x => { x with out := x.next }) s
  if x.actKind = 3 then onPwm x.actIndex (fun p => { p with duty := dutyOf x.next }) s1
  else if x.actKind = 4 then onObj (decide (128 ≤ x.actIndex)) (x.actIndex % 128) (putObj16 x.next) s1
  else s1

/-- LOOP_OUTPUT_APPLY: every output together, 25 µs after the tick (R321). -/
def execLoopOutputApply (s : State) : Out := live s ((List.range 32).foldl applySlot s)

/-! ## Ends of tests, trips and windows -/

/-- TEST_DONE: the run's normal end holds BASE; past LIMIT or with a supervision trip due it is an abort (R334,
R338). -/
def execTestDone (s : State) : Out :=
  live s
    (match s.ctl.test with
     | none => s
     | some t =>
       if t.n < testTicks t then s
       else if limitPassed s (slotOf s t.slot) t (slotInput s (slotOf s t.slot)) ||
           decide (1000 ≤ (slotOf s t.slot).outOfBand) then testAbort s
       else (onSlot t.slot (holdAt t.base) s).onCtl fun c => { c with event := setBit c.event 0, test := none })

/-- A trip puts the slot in OPEN_HOLD at SAFE_OUT; a slot in TEST aborts its test (R334, R336). -/
def tripSlot (i : Nat) (s : State) : State :=
  let s1 := if (slotOf s i).mode = .test then testAbort s else s
  onSlot i (fun x => { holdAt x.safeOut x with fault := true, afterFault := true, outOfBand := 0 }) s1

/-- A trip of a steward slot is a self-declared fault of its grant's holder (R438, R444). -/
def stewardTrip (i : Nat) (s : State) : State :=
  if (slotOf s i).steward && 24 ≤ i then selfDeclare (decide (28 ≤ i)) s else s

/-- LOOP_IMPLAUSIBLE: out of band for 1,000 consecutive ticks (R336). -/
def execLoopImplausible (slot : Fin 32) (s : State) : Out :=
  let i := slot.val
  live s
    (if 1000 ≤ (slotOf s i).outOfBand then
       stewardTrip i (raise Ev.loopImplausible [(1, i)]
         ((tripSlot i s).onCtl fun c => { c with implaus := setBit c.implaus i }))
     else s)

/-- LOOP_SATURATED: at a limit for SAT_TIME × 10 ms without a break (R336). -/
def execLoopSaturated (slot : Fin 32) (s : State) : Out :=
  let i := slot.val
  let x := slotOf s i
  live s
    (if x.satTime * 100 ≤ x.atLimit ∧ x.satRaised = false ∧ x.mode = .closed then
       let s1 := if x.satAction then tripSlot i s
                 else onSlot i (fun x => { x with fault := true, satRaised := true, afterFault := true }) s
       stewardTrip i (raise Ev.loopSaturated [(1, i)] (s1.onCtl fun c => { c with sat := setBit c.sat i }))
     else s)

/-- PLAUS_WINDOW_END: the 30 s after the first tick end for the package, or those of R335 for a slot. -/
def execPlausWindowEnd (slot : Option (Fin 32)) (s : State) : Out :=
  live s
    (match slot with
     | none => s.onIsl fun i => { i with plausWindow := false }
     | some i => onSlot i.val (fun x => { x with plausHold := false }) s)

/-! ## Loop opcodes (R344) -/

/-- SLOT of word 1. -/
def slotArg (ws : List Word) : Nat := fld (wd ws 0) 24 5

/-- A steward slot answers only Cobbler while this package holds a steward grant (R322). -/
def stewardDenied (s : State) (p : Port) (i : Nat) : Bool :=
  (slotOf s i).steward && (s.stew.a.grantHeld || s.stew.b.grantHeld) && p != .cobbler

/-- The slot is CLOSED or in TEST (R327); a change that the next tick is to make does not count yet (R323). -/
def slotShut (x : Slot) : Bool := x.mode == .closed || x.mode == .test

/-- A LOOP_MODE to another mode takes the place of a test that the next tick was to start. DESIGN CHOICE
(notes/assumptions/167). -/
def dropPendingTest (i : Nat) (s : State) : State :=
  s.onCtl fun c => { c with test := c.test.filter fun t => t.slot != i }

/-- An input or output index within the range of its kind; DEDUCED: as written for kind 0, which has none
(R208, R321; notes/assumptions/136). -/
def clampIn (kind idx : Nat) : Nat :=
  if kind = 1 then min 81 idx else if kind = 2 then min 15 idx else if kind = 3 then min 3 idx else idx
def clampOut (kind idx : Nat) : Nat :=
  if kind = 1 then min 15 idx else if kind = 2 ∨ kind = 3 then min 3 idx else idx

/-- Another slot drives the output (R321). -/
def outTaken (s : State) (i kind idx : Nat) : Bool :=
  kind != 0 && (List.range 32).any fun j => j != i && (slotOf s j).outKind == kind && (slotOf s j).outIndex == idx

/-- The configuration words of a slot as applied (R344). -/
def configWords (i lead : Nat) (x : Slot) : List Word :=
  [mkW [(24, i), (20, x.inKind), (12, x.inIndex), (8, x.outKind), (0, x.outIndex)],
   mkW [(28, x.eshift), (24, x.fshift), (23, bn x.sign), (22, bn x.order), (21, bn x.repEn), (20, bn x.ffEn),
        (16, bn x.satAction), (0, x.satTime)],
   mkW [(16, x.outMax), (0, x.outMin)],
   mkW [(16, x.safeOut), (0, x.repLen)],
   mkW [(16, x.repFrames), (12, x.forget), (0, x.repLead)],
   w32 x.vmax, w32 x.amax, w32 x.jmax,
   mkW [(16, x.mBand), (12, x.mTau), (0, lead)],
   ofS32 x.mY0, ofS32 x.mGu, ofS32 x.mGp]

/-- A slot configured by the words of LOOP_CONFIG, with the free pool (R331, R344). -/
def configured (ws : List Word) (free : Nat) (x : Slot) : Slot :=
  let w1 := wd ws 0; let w2 := wd ws 1; let w3 := wd ws 2; let w4 := wd ws 3; let w5 := wd ws 4
  let w9 := wd ws 8
  let ik := min 4 (fld w1 20 4)
  let ok := min 4 (fld w1 8 4)
  let omax := min 0x8000 (fld w3 16 16)
  let len := clampN 16 4096 (fld w4 0 13)
  let rep := bitOf w2 21 && decide (16 ≤ free)
  { x with
    inKind := ik, inIndex := clampIn ik (fld w1 12 8), outKind := ok, outIndex := clampOut ok (fld w1 0 8),
    eshift := fld w2 28 4, fshift := fld w2 24 4, sign := bitOf w2 23, order := bitOf w2 22, repEn := rep,
    ffEn := bitOf w2 20, satAction := bitOf w2 16, satTime := max 1 (fld w2 0 16),
    outMax := omax, outMin := min omax (min 0x8000 (fld w3 0 16)), safeOut := min 0x8000 (fld w4 16 16),
    repLen := if rep then min len free else len, repFrames := fld w5 16 16, forget := fld w5 12 4,
    repLead := fld w5 0 12, vmax := (wd ws 5).toNat, amax := (wd ws 6).toNat, jmax := (wd ws 7).toNat,
    mBand := fld w9 16 16, mTau := fld w9 12 4, mY0 := s32 (wd ws 9), mGu := s32 (wd ws 10),
    mGp := s32 (wd ws 11) }

/-- The table is cleared by a change of input, output or length (R327). -/
def keepTable (s : State) (old new : Slot) : Slot :=
  if old.inKind = new.inKind ∧ old.inIndex = new.inIndex ∧ old.outKind = new.outKind ∧
     old.outIndex = new.outIndex ∧ old.repLen = new.repLen ∧ old.repFrames = new.repFrames then new
  else { new with table := [], periods := 0, lastF := repIndex s new }

/-- LOOP_CONFIG's effect. -/
def doLoopConfig (e : Ctx) (s : State) : State × Answer :=
  let i := slotArg e.words
  let x := slotOf s i
  let free := 16384 - (poolUsed s - poolOf x)
  let n := configured e.words free x
  let lead := fld (wd e.words 8) 0 6
  let ws := configWords i lead n
  if stewardDenied s e.port i || outTaken s i n.outKind n.outIndex then (s, some (6, ws))
  else if slotShut x then (s, some (2, ws))
  else ((onSlot i (fun _ => keepTable s x n) s).onIsl fun z => { z with lead := lead }, some (0, ws))

/-- LOOP_CONFIG. -/
def execLoopConfig (r : Req) (s : State) : Out := opcode 0x210 doLoopConfig r s

/-- A calibration of the slot's input channel runs (R324). -/
def inputInCal (s : State) (x : Slot) : Bool :=
  (List.range 82).any fun c =>
    (sensorOf s c).cal &&
      ((x.inKind == 1 && x.inIndex == c) || (x.inKind == 2 && c < 64 && x.inIndex == c / 4))

/-- MODE of LOOP_MODE: 0 to 2 or 7; 3 counts as 7, other codes go to the nearer legal one (R208, R344). -/
def modeArg (w : Word) : Nat :=
  let m := fld w 0 3
  if m = 3 then 7 else nearestOf [0, 1, 2, 7] m

/-- LOOP_MODE's effect (R323, R324, R336). -/
def doLoopMode (e : Ctx) (s : State) : State × Answer :=
  let i := slotArg e.words
  let x := slotOf s i
  let m := modeArg (wd e.words 0)
  let tgt := sext 16 (fld (wd e.words 1) 0 16)
  let man := min 0x8000 (fld (wd e.words 2) 0 16)
  let ws := [mkW [(24, i), (0, m)], w32 (ofInt 16 tgt), w32 man]
  if stewardDenied s e.port i then (s, some (6, ws))
  else if x.mode = .test ∨ (m = 2 ∧ inputInCal s x = true) then (s, some (2, ws))
  else
    let f (x : Slot) : Slot :=
      let y := { x with target := tgt, manual := man }
      if m = 0 then { y with pendMode := some .openHold }
      else if m = 1 then { y with pendMode := some .openManual }
      else if m = 2 then { y with pendMode := some .closed, fault := false }
      else y
    (onSlot i f (s.whenB (m != 7) (dropPendingTest i)), some (0, ws))

/-- LOOP_MODE. -/
def execLoopMode (r : Req) (s : State) : Out := opcode 0x211 doLoopMode r s

/-- The coefficient words of a slot. -/
def coeffWords (x : Slot) : List Word :=
  [ofS32 x.b0, ofS32 x.b1, ofS32 x.b2, ofS32 x.b3, ofS32 x.a1, ofS32 x.a2, ofS32 x.a3, ofS32 x.ki, ofS32 x.kff,
   ofS32 x.kr]

/-- LOOP_COEFF_SET's effect (R327). -/
def doLoopCoeff (e : Ctx) (s : State) : State × Answer :=
  let i := slotArg e.words
  let x := slotOf s i
  let c (k : Nat) : Int := s32 (wd e.words k)
  let ws := mkW [(24, i)] :: (e.words.drop 1).take 10
  if stewardDenied s e.port i then (s, some (6, ws))
  else if slotShut x then (s, some (2, ws))
  else
    (onSlot i (fun x => { x with b0 := c 1, b1 := c 2, b2 := c 3, b3 := c 4, a1 := c 5, a2 := c 6, a3 := c 7,
                                 ki := c 8, kff := c 9, kr := c 10 }) s, some (0, ws))

/-- LOOP_COEFF_SET. -/
def execLoopCoeffSet (r : Req) (s : State) : Out := opcode 0x212 doLoopCoeff r s

/-- LOOP_STATUS. -/
def execLoopStatus (r : Req) (s : State) : Out :=
  opcode 0x213 (fun e s =>
    let i := slotArg e.words
    let x := slotOf s i
    (s, some (0, configWords i s.isl.lead x ++ coeffWords x ++
      [regLoopStat x, regLoopSp x, regLoopTarget x, regLoopOut x]))) r s

/-- The capture buffer is being read (R333). -/
def captureOpen (s : State) : Bool := allPorts.any fun q => (s.win q).active && (s.win q).target == 5

/-- LOOP_TEST's effect (R333). -/
def doLoopTest (e : Ctx) (s : State) : State × Answer :=
  let i := slotArg e.words
  let x := slotOf s i
  let w1 := wd e.words 0; let w2 := wd e.words 1; let w3 := wd e.words 2; let w4 := wd e.words 3
  let kind := min 2 (fld w1 22 2)
  let hold := max 1 (fld w1 0 8)
  let amp := min 0x8000 (fld w2 16 16)
  let base := min 0x8000 (fld w2 0 16)
  let f1 := min 50000 (fld w3 16 16)
  let f0 := min 50000 (fld w3 0 16)
  let lim := sext 16 (fld w4 16 16)
  let len := clampN 1 16384 (fld w4 0 15)
  let o := fld w1 16 2
  let ws := [mkW [(24, i), (22, kind), (16, o), (8, fld w1 8 8), (0, hold)], mkW [(16, amp), (0, base)],
             mkW [(16, f1), (0, f0)], mkW [(16, ofInt 16 lim), (0, len)]]
  if stewardDenied s e.port i then (s, some (6, ws))
  else if slotShut x || s.ctl.test.isSome || captureOpen s then (s, some (2, ws))
  else
    ((onSlot i (fun x => { x with pendMode := some .test }) s).onCtl fun c =>
       { c with testSlot := i, capture := [],
                test := some { slot := i, kind := kind, order := o, dec := fld w1 8 8 + 1, hold := hold, amp := amp,
                               base := base, f0 := f0, f1 := f1, limit := lim, length := len, prbs := prbsSeed o } },
     some (0, ws))

/-- LOOP_TEST. -/
def execLoopTest (r : Req) (s : State) : Out := opcode 0x903 doLoopTest r s

/-- CAPTURE_READ: opens the window outbound over the captured samples (R334). -/
def execCaptureRead (r : Req) (s : State) : Out :=
  opcode 0x904 (fun e s =>
    let n := 2 * s.ctl.capture.length
    if s.ctl.test.isSome || windowBusy s e.port 5 0 then (s, some (2, [w32 n]))
    else
      (openWindow e.port e.tag 5 0 true n (s.ctl.capture.flatMap fun x => [ofS32 x.1, ofS32 x.2]) s,
       some (0, [w32 n]))) r s

end Sys2Proof.Machine
end

