-- ==== Sys2Proof/Machine/Protect.lean ====
section
/-! DEFINITION. The health summary and what a trip or a wake request does to a valve test: the parts of
the protection chapter that power sequencing needs (R194 to R197, R384). -/

namespace Sys2Proof.Machine

/-! ## The health summary (R194, R195) -/

/-- HS_STATE takes a value: a change of bits [7:0] raises control-function vector 2 while function 0 is powered; one
of bits [7:2] is a device wake cause where that asserts `WAKE#`, and its vector then waits for the host's resume
(R187, R195, R269, R271). -/
def setHealth (w : Word) (s : State) : State :=
  let d := s.health.state ^^^ w
  let s1 := s.onHealth fun h => { h with state := w }
  if fld d 2 6 != 0 && deviceWakes s then deviceWake 6 s1
  else s1.whenB (fld d 0 8 != 0 && mgmtOn s) fun t => t.onPort (raiseVec 2)

/-- A bit of HS_STATE sets at once. -/
def healthBit (i : Nat) (s : State) : State := setHealth (setBit s.health.state i) s

/-- HS_STATE as a tick computes it (R195). -/
def healthWord (s : State) : Word :=
  mkW [(24, if computeOn s then s.last.st.code else 0), (16, s.pwr.pstate.code), (7, bn s.welt.leakTrip),
       (6, bn s.isl.toecapExpired), (5, bn s.isl.coolDegraded), (4, bn s.welt.thermTrip),
       (3, bn s.stew.a.grantHeld), (2, bn s.stew.b.grantHeld), (1, bn s.pwr.brake),
       (0, bn (bitOf s.health.state 0))]

/-! ## The end of a valve test (R384) -/

/-- A channel returns to the state that it had before the test, but for a forced command that stands (R355). -/
def restoreValve (k : Nat) (c : Valve) (s : State) : State :=
  onValve k (fun x => if x.forced then x else { x with phase := c.phase, endAt := c.endAt, pend := c.pend }) s

/-- A valve test ends with a result code: the channels return to their prior state, WELT_TEST and the
record are written, and the flow balance stays suspended for WIN_S seconds (R383, R384). -/
def endVTest (result : Nat) (s : State) : State :=
  match s.welt.test with
  | none => s
  | some t =>
    let s1 := restoreValve (16 + t.xvOut) t.priorOut (restoreValve (16 + t.xvIn) t.priorIn s)
    let s2 := s1.onWelt fun w =>
      { w with test := none, result := result, suspendS := w.winS,
               event := if result = 2 then setBit w.event 4 else w.event }
    raise Ev.valveTestResult [(1, result)] s2

/-- A leak trip, a Toecap expiry or a wake request aborts a valve test (R384). -/
def abortVTest (s : State) : State := endVTest 3 s

end Sys2Proof.Machine
end

