-- ==== Sys2Proof/Machine/Power.lean ====
section
/-! DEFINITION. Rails, power states and their sequences, wake requests, the core clock, the brake and the
registers and opcodes of the PWR block (R258 to R271, R274, R283 to R291). -/

namespace Sys2Proof.Machine

/-! ## Core clock (R260) -/

/-- VDD_CORE in mV for a core clock in MHz, linear between the breakpoints of R260. -/
def coreMv (mhz : Nat) : Rat :=
  if mhz ≤ 1200 then 700
  else if mhz ≤ 1500 then 700 + (50 * ((mhz - 1200 : Nat) : Rat)) / 300
  else 750 + (50 * ((mhz - 1500 : Nat) : Rat)) / 150

/-- The values of CLK_MHZ: 0 to keep, 600 to 1,800 in steps of 50 (R291). -/
def clkLegal : List Nat := 0 :: (List.range 25).map fun i => 600 + 50 * i

/-- A core clock is requested: recorded while the core rails are down; else the voltage rises at once for
an increase, and the clock changes at a frame boundary (R260). -/
def clockRequest (mhz : Nat) (s : State) : State :=
  if mhz = 0 then s
  else if inS0S1 s then
    s.onPwr fun p => { p with clkReq := some mhz, vset := if p.clkMhz < mhz then coreMv mhz else p.vset }
  else s.onPwr fun p => { p with clkMhz := mhz, clkReq := none }

/-- READ_VOUT of the four core rails confirms the voltage of a clock. DEDUCED: it does at that voltage or above, in
whole mV (notes/assumptions/143). -/
def voltConfirmed (p : PwrBlk) (mhz : Nat) : Bool :=
  (List.range 4).all fun d => decide ((coreMv mhz).floor.toNat ≤ vget p.vout (4 + d) 0)

/-- CLOCK_CHANGE_APPLY: at a frame boundary, an increase only once READ_VOUT confirms its voltage (R260). -/
def execClockChangeApply (s : State) : Out :=
  live s <|
    match s.pwr.clkReq with
    | none => s
    | some v =>
      if computeOn s && (decide (v ≤ s.pwr.clkMhz) || voltConfirmed s.pwr v) then
        s.onPwr fun p => { p with clkMhz := v, clkReq := none, vset := coreMv v }
      else s

/-- The core rails are down: issue that a trip stopped has ended with them, and a requested clock is recorded, to
take effect when they next come up (R28, R260). -/
def coresDark (p : PwrBlk) : PwrBlk :=
  { p with issueStopped := false, clkMhz := p.clkReq.getD p.clkMhz, clkReq := none, coreEnAt := none }

/-! ## Registers (R284 to R290) -/

/-- THERMAL_W: the shed limit and the 800 W part (R272, R285). -/
def thermalW (p : PwrBlk) : Nat := if p.thermal800 then min 800 p.shedW else p.shedW

/-- PWR_STATE. While the MP is in reset the power manager's own registers read their reset values
(R283). -/
def regPwrState (s : State) : Word :=
  if s.sec.mpRun then
    mkW [(16, s.pwr.clkMhz), (12, (lowestOf (activeLimits s)).1), (11, bn s.pwr.warm),
         (10, bn (decide (0 < s.pwr.fillerMw))), (9, bn s.pwr.normal), (8, bn s.pwr.seq.isSome),
         (2, s.pwr.target.code), (0, s.pwr.pstate.code)]
  else 0x05DC400A#32

def regPwrLimitA (s : State) : Word := mkW [(16, s.pwr.hostW), (0, s.pwr.stewardW)]
def regPwrLimitB (s : State) : Word :=
  if s.sec.mpRun then mkW [(16, thermalW s.pwr), (0, s.pwr.inForceW)] else 0x064003C0#32
def regPwrCtl (p : PwrBlk) : Word := mkW [(16, p.tThrottle), (0, bn p.keepWarm)]
def regPwrRail (p : PwrBlk) : Word := mkW [(28, p.failedRail), (16, p.en.toNat), (0, p.pg.toNat)]
def regPwrThrottle (p : PwrBlk) : Word :=
  mkW [(24, p.thrCluster), (20, p.dReq), (16, p.dApplied), (15, bn p.escalated), (0, p.thrTemp % 256)]

/-- A read of the PWR block (R283). -/
def regPwr (s : State) (off : Nat) : Word :=
  if off = 0x00 then regPwrState s
  else if off = 0x04 then regPwrLimitA s
  else if off = 0x08 then regPwrLimitB s
  else if off = 0x0C then regPwrCtl s.pwr
  else if off = 0x10 then s.pwr.event
  else if off = 0x14 then s.pwr.wakeCause
  else if off = 0x18 then regPwrRail s.pwr
  else if off = 0x1C then regPwrThrottle s.pwr
  else if off = 0x20 then w32 s.pwr.brakeCnt
  else 0

/-- A write of the PWR block (R286 to R290). -/
def pwrWrite (off : Nat) (be : BitVec 4) (w : Word) (s : State) : State :=
  if off = 0x0C then
    s.onPwr fun p =>
      let x := wRW 0x00FF0001#32 (regPwrCtl p) w be
      { p with tThrottle := clampN 80 110 (fld x 16 8), keepWarm := bitOf x 0 }
  else if off = 0x10 then s.onPwr fun p => { p with event := wW1C 0x3FF#32 p.event w be }
  else if off = 0x14 then s.onPwr fun p => { p with wakeCause := wW1C 0xFF#32 p.wakeCause w be }
  else if off = 0x20 then s.onPwr fun p => { p with brakeCnt := (wRW 0xFFFFFFFF#32 (w32 p.brakeCnt) w be).toNat }
  else s

/-! ## The reply of a PWR_STATE_SET (R291) -/

/-- Word 1 of PWR_STATE_SET as applied. -/
def stateWord (w : Word) : Word := mkW [(16, nearestOf clkLegal (fld w 16 12)), (0, fld w 0 2)]

/-- The reply that a sequence owes is written: DONE, or INTEGRITY with PWR_RAIL for a wake that failed.
DEDUCED: a wake that a rail failure ends is answered as one that a PG timeout ends
(notes/assumptions/58). -/
def replySeq (q : PwrSeq) (s : State) : State :=
  match q.req with
  | none => s
  | some (p, tag) =>
    match s.port.ctx.find? fun e => e.port == p && e.tag == tag && e.op == 0x101 && !e.silent with
    | none => s
    | some e =>
      let w1 := stateWord (wd e.words 0)
      if q.failed then finish e 9 [w1, s.pwr.wakeCause, regPwrRail s.pwr] s
      else finish e 0 [w1, s.pwr.wakeCause] s

/-! ## Power-down (R261, R264) -/

/-- The rails that a power-down lowers, in the order of R264. -/
def downOrder (t : PState) : List Nat := if t = .s3 then [8, 7, 6, 5, 4, 3, 2, 1, 0] else [8, 7, 6, 5, 4, 3]

/-- The enables of rails fall. -/
def dropEn (l : List Nat) (s : State) : State :=
  s.onPwr fun p => { p with en := l.foldl (fun e r => e &&& ~~~(1#9 <<< r)) p.en }

/-- S2 is reached on the way down: stacks in self-refresh, and the reply of a S0 or S1 to S3 request
(R261). -/
def reachS2 (s : State) : State :=
  if inS0S1 s then
    let s1 := (stacksRefresh s).onPwr fun p => { p with pstate := .s2 }
    match s1.pwr.seq with
    | some q => if q.failed || q.target != .s3 then s1
                else (replySeq q s1).onPwr fun p => { p with seq := some { q with req := none } }
    | none => s1
  else s

/-- A power-down has lowered its last rail. -/
def downDone (s : State) : State :=
  match s.pwr.seq with
  | none => s
  | some q =>
    let s1 := reachS2 s
    let s2 := s1.onPwr fun p =>
      { p with pstate := q.target, target := q.target, seq := none }
    let s2 := s2.whenB (q.target == .s2) stacksRefresh
    let s3 := s2.whenB (q.target == .s3 && s.vlv.forcedRail) fun t => t.onVlv fun v => { v with railS3 := some s.log.elapsed }
    match s1.pwr.seq with
    | some q1 => replySeq q1 s3
    | none => s3

/-- The sequence goes on: rails that are down already lose their enables, the next one that is up is
lowered, each domain's work done before its rail falls (R264). -/
def dropNext (s : State) : State :=
  match s.pwr.seq with
  | none => s
  | some q =>
    if q.up || q.atBoundary then s
    else
      let isUp := fun r => s.pwr.pg.getLsbD r && !s.pwr.stuck.getLsbD r
      let l := downOrder q.target
      match l.find? isUp with
      | none => downDone (dropEn l s)
      | some r =>
        let s1 := if r ≤ 2 then reachS2 s else s
        let s2 := if r = 0 ∧ mgmtOn s1 = true then mgmtDown s1 else s1
        dropEn (r :: l.takeWhile fun x => !isUp x) s2

/-- A power-down begins: PEER_RESET goes out on every active lane first (R163, R264). -/
def beginDown (target : PState) (req : Option (Port × BitVec 6)) (failed : Bool) (s : State) : State :=
  let s1 := s.whenB (opticalOn s) fun t => t.onLace fun l => laceCleared l (activeMask t)
  dropNext (s1.onPwr fun p =>
    { p with target := target, stuck := 0, coreEnAt := none,
             seq := some { up := false, target := target, req := req, failed := failed } })

/-- What a rail takes with it as it goes down. -/
def railLost (r : Nat) (s : State) : State :=
  if r = 8 then lanesStart false (List.range 128) s
  else if 4 ≤ r then (dieSensorsOff (r - 4) (diesReset (2 ^ (r - 4)) s)).onPwr coresDark
  else if r = 3 then diesReset 0xF s
  else if r = 2 then stacksOff s
  else s

/-- A rail is no longer good; VDD_IO that fails while it is up takes the management domain with it (R231). -/
def pgFall (r : Nat) (s : State) : State :=
  railLost r ((s.whenB (r == 0 && mgmtOn s) mgmtLost).onPwr fun p =>
    { p with pg := p.pg &&& ~~~(1#9 <<< r), stuck := p.stuck &&& ~~~(1#9 <<< r) })

/-- RAIL_DOWN: a rail whose enable has fallen is down, and the next one follows. -/
def execRailDown (rail : Fin 9) (s : State) : Out :=
  live s
    (if s.pwr.pg.getLsbD rail.val && !s.pwr.en.getLsbD rail.val then dropNext (pgFall rail.val s) else s)

/-- PG_STUCK: a PG still high 5 ms after its enable fell; the sequence continues (R264). -/
def execPgStuck (rail : Fin 9) (s : State) : Out :=
  live s
    (if s.pwr.pg.getLsbD rail.val && !s.pwr.en.getLsbD rail.val && !s.pwr.stuck.getLsbD rail.val then
       let s1 := raise Ev.pwrPgStuck [(1, rail.val)] (pwrEvent 7 s)
       dropNext (railLost rail.val (s1.onPwr fun p => { p with stuck := p.stuck ||| (1#9 <<< rail.val) }))
     else s)

/-! ## Rail failures (R263, R265, R266) -/

/-- A failure counts toward the lockout: three within 60 s (R263). -/
def countFailure (s : State) : State :=
  s.onPwr fun p =>
    let l := s.log.elapsed :: p.failures.filter fun t => decide (s.log.elapsed < t + 60000000)
    { p with failures := l, lockout := p.lockout || decide (3 ≤ l.length) }

/-- The rails that depend on a rail (R258). -/
def dependents (r : Nat) : List Nat :=
  if r = 0 then [1, 3, 8] else if r = 1 then [2] else if r = 3 then [4, 5, 6, 7] else []

/-- A trip is latched (R266, R380, R386). -/
def tripLatched (s : State) : Bool := s.welt.leakTrip || s.welt.thermTrip

/-- Every enable falls in one island cycle: each domain is gone at once, with no time to program records, and the
sequence waits for the rails (R265, R380, R385). -/
def allOff (s : State) : State :=
  let q := (s.pwr.seq.map fun q => q.req).getD none
  let s1 := s.onPwr fun p =>
    { coresDark p with
      en := 0, target := .s3, stuck := 0, seq := some { up := false, target := .s3, req := q, failed := true } }
  let s2 := s1.whenB (mgmtOn s) mgmtLost
  let s3 := diesReset 0xF (s2.onLace fun l => laceCleared l 0)
  dropNext ((List.range 4).foldl (fun t d => dieSensorsOff d t) s3)

/-- The out-of-order actions of R265: safe outputs, PDSEQ_RAILFAIL, every enable off. -/
def outOfOrder (r : Nat) (s : State) : State :=
  allOff (forceOpenAll ((s.onPwr fun p => { p with pdseq := some r }).onVlv fun v =>
    { v with forcedRail := true, railS3 := none }))

/-- The sequence under way lowers the rail and has not yet done so. -/
def toLower (s : State) (r : Nat) : Bool :=
  match s.pwr.seq with
  | some q => !q.up && !q.atBoundary && (downOrder q.target).contains r
  | none => false

/-- A running sequence's request, for the reply that it owes. -/
def seqReq (s : State) : Option (Port × BitVec 6) := (s.pwr.seq.map fun q => q.req).getD none

/-- A rail that is enabled and good fails: every failure counts toward the lockout and names its rail (R259, R263,
R265, R266, R289). -/
def railFail (r : Nat) (s : State) : State :=
  if !railUp s r then s
  else
    let depUp := (dependents r).any fun d => s.pwr.pg.getLsbD d
    let s0 := countFailure (s.onPwr fun p => { p with failedRail := r })
    if toLower s r then
      let s1 := pgFall r s0
      if depUp then (if s.welt.leakTrip then allOff s1 else outOfOrder r s1) else dropNext s1
    else
      let s1 := raise Ev.pwrRailFault [(1, r)] (pwrEvent 5 s0)
      let s2 := s1.whenB (s.last.st == .running) lastFault
      let s3 := pgFall r s2
      if s.welt.leakTrip then allOff s3
      else if depUp then outOfOrder r s3
      else beginDown .s3 (seqReq s3) true s3

/-- RAIL_FAILURE. -/
def execRailFailure (rail : Fin 9) (s : State) : Out := live s (railFail rail.val s)

/-- SMBALERT: each regulator that answers the Alert Response Address names a failed rail (R260). -/
def execSmbalert (rails : List (Fin 9)) (s : State) : Out :=
  live s ((rails.foldl (fun s r => railFail r.val s) s).onPwr fun p => { p with smbAlert := false })

/-- SMBALERT_ARA_TIMEOUT: no regulator answers within 1 ms; each rail whose STATUS_WORD reports a fault
counts as failed (R260). -/
def execSmbalertAraTimeout (rails : List (Fin 9)) (s : State) : Out :=
  live s (rails.foldl (fun s r => railFail r.val s) (s.onPwr fun p => { p with smbAlert := true }))

/-- PMBUS_POLL: READ_VOUT in mV and READ_IOUT in 0.1 A of rails 0 to 8 (R260). -/
def execPmbusPoll (readings : List (Nat × Nat)) (s : State) : Out :=
  live s (s.onPwr fun p =>
    { p with vout := p.vout.mapFinIdx fun i x _ => ((readings[i]?).map fun r => r.1).getD x
             iout := p.iout.mapFinIdx fun i x _ => ((readings[i]?).map fun r => r.2).getD x })

/-! ## Power-up (R262, R263) -/

/-- Enables rise. -/
def raiseEn (l : List Nat) (s : State) : State := s.onPwr fun p => { p with en := l.foldl (fun e r => e ||| (1#9 <<< r)) p.en }

/-- The stacks that are not recorded as retired begin to train (R122). -/
def stacksTrain (s : State) : State :=
  s.onMem fun m => { m with stk := m.stk.map fun k =>
    if k.recRetired then { k with st := .retired } else { k with st := .training } }

/-- Firmware under trial starts from its previous bank at a management power-up (R487). -/
def trialsBack (s : State) : State :=
  let s1 := if s.sec.mp.trial then rollback 0 s else s
  if s1.sec.sec.trial then rollback 1 s1 else s1

/-- The clusters as fuses leave them, without a spare (R476). -/
def fusedClusters (c : CoreBlk) : CoreBlk :=
  { c with recordLost := true
           clusters := Vector.ofFn fun n => { spare := none, retired := c.fuseRetired.filterMap fun k =>
                                                if k / 65 = n.val then some (k % 65) else none } }

/-- The repair record is loaded at the power-up of the management domain; without a valid copy it is
rebuilt from fuses, self-tests and training (R475, R476). DEDUCED: a lost record's stacks and lanes are none retired,
and H0 holds the system region (notes/assumptions/172). -/
def loadRecord (s : State) : State :=
  if s.sec.repairA || s.sec.repairB then s
  else
    raise Ev.repairRecordLost []
      (((s.onCore fusedClusters).onMem fun m =>
          { m with systemStack := 0, stk := m.stk.map fun k => { k with recRetired := false } }).onLace fun l =>
        { l with retired := 0 })

/-- Pattern set 0 of CORE_SELFTEST on every physical core of a die, after a lost repair record (R476). -/
def dieTests (d : Nat) (s : State) : State :=
  (List.range 16).foldl (fun s n => (List.range 65).foldl (fun s c => startTest (16 * d + n) c false s) s) s

/-- What a rail that has become good lets follow (R262). -/
def railGood (r : Nat) (q : PwrSeq) (s : State) : State :=
  if r = 0 then raiseEn [1] (relock (loadRecord (trialsBack s)))
  else if r = 1 then raiseEn [2] s
  else if r = 2 then
    let s1 := stacksTrain s
    if q.target = .s2 then s1 else raiseEn [3] s1
  else if r = 3 then
    raiseEn [4] (s.onPwr fun p => { p with vset := coreMv p.clkMhz, coreEnAt := some s.log.elapsed })
  else if r = 8 then
    lanesStart false (List.range 128)
      (s.onLace fun l => { l with lanes := l.lanes.map fun x => { x with peerRetired := false } })
  else
    let s1 := s.whenB s.core.recordLost (dieTests (r - 4))
    if (List.range 4).all fun d => s1.pwr.pg.getLsbD (4 + d) then raiseEn [8] s1 else s1

/-- `PWR_EN_CORE_B`, C and D follow A at intervals of 100 µs (R262). -/
def coreStagger (s : State) : State :=
  match s.pwr.coreEnAt with
  | none => s
  | some t =>
    let n := (s.log.elapsed - t) / 100
    let s1 := raiseEn ((List.range (min 3 n)).map (5 + ·)) s
    if 3 ≤ n then s1.onPwr fun p => { p with coreEnAt := none } else s1

/-- PG_RISE. -/
def execPgRise (rail : Fin 9) (s : State) : Out :=
  live s
    (if s.pwr.en.getLsbD rail.val && !s.pwr.pg.getLsbD rail.val then
       match s.pwr.seq with
       | some q =>
         let s1 := s.onPwr fun p => { p with pg := p.pg ||| (1#9 <<< rail.val) }
         if q.up then railGood rail.val q s1 else s1
       | none => s
     else s)

/-- PG_TIMEOUT: a PG that did not rise within 5 ms of its enable (R263). -/
def execPgTimeout (rail : Fin 9) (s : State) : Out :=
  live s
    (match s.pwr.seq with
     | none => s
     | some q =>
       if q.up && s.pwr.en.getLsbD rail.val && !s.pwr.pg.getLsbD rail.val then
         let s1 := countFailure (pwrEvent 6 (s.onPwr fun p => { p with failedRail := rail.val }))
         let s2 := dropEn [rail.val] (raise Ev.pwrPgTimeout [(1, rail.val)] s1)
         beginDown (if rail.val ≤ 2 then .s3 else .s2) q.req true s2
       else s)

/-- The rails that a state needs. -/
def railsFor (t : PState) : List Nat := if t = .s2 then [0, 1, 2] else [0, 1, 2, 3, 4, 5, 6, 7, 8]

/-- No stack trains any more. -/
def stacksReady (s : State) : Bool := s.mem.stk.toList.all fun k => k.st != .training

/-- The events behind the device causes that waited for the host's resume are delivered, and `WAKE#` is
released (R271). -/
def resumeDone (s : State) : State :=
  let c := s.pwr.wakeDue
  let s1 := s.whenB (bitOf c 4 && mbxPending s 1) fun t => t.onPort (raiseVec 1)
  let s2 := s1.whenB (bitOf c 4 && mbxPending s 2) fun t => t.onPort raiseDataVec
  let s3 := s2.whenB (bitOf c 6 || bitOf c 5) fun t => t.onPort (raiseVec 2)
  s3.onPwr fun p => { p with wakePin := false, wakeDue := 0 }

/-- A repair record lost is written anew to both copies once the package is up (R476). -/
def recordDone (s : State) : State :=
  if s.core.recordLost then
    (s.onCore fun c => { c with recordLost := false }).onSec fun c => { c with repairA := true, repairB := true }
  else s

/-- The MP has been released, or its boot has failed and it stays in reset (R262, R498). DEDUCED: a failed boot does
not hold the target state (notes/assumptions/144). -/
def mpSettled (s : State) : Bool := s.sec.mpRun || s.sec.bootFailed

/-- POWER_UP_COMPLETE: the target state is reached (R262, R271). -/
def execPowerUpComplete (s : State) : Out :=
  live s
    (match s.pwr.seq with
     | none => s
     | some q =>
       if q.up && mpSettled s && stacksReady s && (railsFor q.target).all fun r => railUp s r then
         let s1 := recordDone (s.whenB q.host resumeDone)
         let s2 := s1.whenB (q.target == .s2) stacksRefresh
         if q.thenS1 then
           s2.onPwr fun p => { p with pstate := .s0, target := .s1,
                                      seq := some { q with up := false, target := .s1, atBoundary := true } }
         else replySeq q (s2.onPwr fun p => { p with pstate := q.target, target := q.target, seq := none })
       else s)

/-! ## Wake requests (R270, R271) -/

/-- Cobbler refuses a wake: the lockout, or a latched trip (R263, R270, R380, R386). -/
def wakeRefused (s : State) : Bool := s.pwr.lockout || tripLatched s

/-- A wake cause is latched (R270, R288). -/
def wakeCause (bit : Nat) (s : State) : State := s.onPwr fun p => { p with wakeCause := setBit p.wakeCause bit }

/-- A wake request is accepted: forced outputs of a rail failure end (R355), and the power-up begins. -/
def acceptWake (target : PState) (thenS1 host : Bool) (req : Option (Port × BitVec 6)) (s : State) : State :=
  let s1 := withdrawIfFree (s.onVlv fun v => { v with forcedRail := false, railS3 := none })
  let s2 := s1.onPwr fun p =>
    { p with target := target, stuck := 0,
             seq := some { up := true, target := target, thenS1 := thenS1, host := host, req := req } }
  if s.pwr.pstate = .s3 then raiseEn [0] s2 else raiseEn [3] (stacksTrain s2)

/-- PERST_DEASSERT: in S3 a wake to S2 (R270); during a running sequence the host's resume takes it over
(R271). -/
def execPerstDeassert (s : State) : Out :=
  let s0 := s.onPort fun b => { b with perst := false }
  live s
    (if s.pwr.pstate = .s3 then
       match s.pwr.seq with
       | some q => if q.up then wakeCause 0 (s0.onPwr fun p => { p with seq := some { q with host := true } }) else s0
       | none =>
         let s1 := abortVTest s0
         if wakeRefused s then s1 else wakeCause 0 (acceptWake .s2 false true none s1)
     else s0)

/-- The code of a message that waits for Cobbler on channel 6 (R270). -/
def trayMsg (s : State) : Option Nat :=
  let c := mbxCh s 6
  if c.bound && c.receiver == 5 && c.doorbell then some (fld (vget c.data 0 0) 0 8) else none

/-- Cobbler acknowledges the tray's message. -/
def trayAck (code : Nat) (s : State) : State := mbxAcknowledge .cobbler 6 (BitVec.ofNat 8 code) s

/-- The state that a POWER_UP message names. -/
def trayTarget (s : State) : Nat := fld (vget (mbxCh s 6).data 0 0) 8 2

/-- TRAY_POWER_UP: code 0x01 on channel 6 (R270, R271). DEDUCED: a target of S1 is reached through S0 as
in R261 (notes/assumptions/59). -/
def execTrayPowerUp (s : State) : Out :=
  live s
    (if trayMsg s = some 1 then
       match s.pwr.seq with
       | some _ => trayAck 2 (wakeCause 3 s)
       | none =>
         if s.pwr.pstate.code ≤ trayTarget s then trayAck 2 s
         else if wakeRefused s then trayAck 1 (abortVTest s)
         else if s.pwr.pstate = .s1 then
           trayAck 0 (wakeCause 3 (s.onPwr fun p =>
             { p with target := .s0, seq := some { target := .s0, atBoundary := true } }))
         else
           trayAck 0 (wakeCause 3 (acceptWake (if trayTarget s = 2 then .s2 else .s0)
             (decide (trayTarget s = 1)) false none (abortVTest s)))
     else s)

/-- TRAY_CLEAR_LOCKOUT: code 0x02 (R263, R270). -/
def execTrayClearLockout (s : State) : Out :=
  live s
    (if trayMsg s = some 2 then trayAck 0 (s.onPwr fun p => { p with lockout := false, failures := [] }) else s)

/-- The whole island queue is programmed, the open record first closed (R462). -/
def drainIsland (s : State) : State :=
  let s1 := s.onLog closeOpen
  (List.range s1.log.islQueue.length).foldl (fun s _ => s.onLog fun l => programHead { l with pageErase := false }) s1

/-- TRAY_ISLAND_OFF: code 0x03: the queue is programmed and the marker written clean (R267, R462); no
program starts while a thermal trip is latched (R386). -/
def execTrayIslandOff (s : State) : Out :=
  live s
    (if trayMsg s = some 3 then
       trayAck 0 (if s.welt.thermTrip then s else (drainIsland s).onPwr fun p => { p with markerClean := true })
     else s)

/-! ## The brake (R24, R274) -/

/-- PWR_BRAKE_ASSERT: recorded in every state; in S0 the gate acts at once (R24, R28). -/
def execPwrBrakeAssert (s : State) : Out :=
  live s
    (if s.pwr.brake then s
     else
       (pwrEvent 0 s).onPwr fun p =>
         { p with brake := true, brakeCnt := satAdd 0xFFFFFFFF p.brakeCnt 1,
                  inForceW := if p.pstate = .s0 then min 400 p.inForceW else p.inForceW
                  issue := if p.pstate = .s0 then min 4 p.issue else p.issue })

/-- PWR_BRAKE_DEASSERT: power rises again under the slew limit (R24). -/
def execPwrBrakeDeassert (s : State) : Out := live s (s.onPwr fun p => { p with brake := false })

/-- STARTUP_CAP_LIFT: the package flow has read 2.0 to 4.0 L/min for 2 s (R268, R309). -/
def execStartupCapLift (s : State) : Out :=
  live s
    (if 2000 ≤ packageFlow s ∧ packageFlow s ≤ 4000 then
       (s.onPwr fun p => { p with startup := false }).onIsl fun i => { i with flowValid := true }
     else s)

/-! ## Opcodes (R291) -/

/-- PWR_STATUS. -/
def execPwrStatus (r : Req) (s : State) : Out :=
  opcode 0x100 (fun _ s =>
    (s, some (0, [regPwrState s, regPwrLimitA s, regPwrLimitB s, s.pwr.event, s.pwr.wakeCause,
                  regPwrThrottle s.pwr]))) r s

/-- PWR_RAIL_STATUS. -/
def execPwrRailStatus (r : Req) (s : State) : Out :=
  opcode 0x103 (fun _ s =>
    (s, some (0, regPwrRail s.pwr :: (List.range 9).map fun i =>
      mkW [(16, vget s.pwr.vout i 0 % 65536), (0, vget s.pwr.iout i 0 % 65536)]))) r s

/-- PWR_CAP_SET. -/
def execPwrCapSet (r : Req) (s : State) : Out :=
  opcode 0x102 (fun e s =>
    let h := clampN 240 1600 (fld (wd e.words 0) 0 16)
    let t := s.onPwr fun p => { p with hostW := h }
    (t, some (0, [w32 h, regPwrLimitB t]))) r s

/-- The wake cause bit of a port's PWR_STATE_SET (R288). -/
def portCause (p : Port) (s : State) : State :=
  match p with
  | .host => wakeCause 1 s
  | .tray => wakeCause 2 s
  | _ => s

/-- A transition that ends at the next frame boundary (R261). -/
def atBoundarySeq (t : PState) (e : Ctx) (s : State) : State :=
  s.onPwr fun p =>
    { p with target := t
             seq := some { target := t, atBoundary := true, req := some (e.port, e.tag),
                           host := e.port == .host && t == .s0 } }

/-- The state that a code names. -/
def PState.ofCode (n : Nat) : PState := if n = 0 then .s0 else if n = 1 then .s1 else if n = 2 then .s2 else .s3

/-- PWR_STATE_SET's effect (R261, R270, R282, R291). -/
def doPwrStateSet (e : Ctx) (s : State) : State × Answer :=
  let w1 := stateWord (wd e.words 0)
  let t := PState.ofCode (fld (wd e.words 0) 0 2)
  let now := s.pwr.pstate
  let c := clockRequest (fld w1 16 12) s
  let ans (st : Nat) (x : State) : State × Answer := (x, some (st, [w1, x.pwr.wakeCause]))
  if s.pwr.seq.isSome then ans 2 s
  else if now = t then ans 0 (c.whenB (e.port == .host) resumeDone)
  else if now = .s3 then
    (if t = .s1 then (s, some (7, []))
     else if wakeRefused s then ans 6 (abortVTest s)
     else (portCause e.port (acceptWake t false (e.port == .host) (some (e.port, e.tag)) (abortVTest c)), none))
  else if now = .s2 then
    (if t = .s3 then ans 0 (beginDown .s3 none false c)
     else if wakeRefused s then ans 6 (abortVTest s)
     else (portCause e.port (acceptWake .s0 (t == .s1) (e.port == .host) (some (e.port, e.tag)) (abortVTest c)), none))
  else if t = .s0 then
    (if s.last.st = .paused then ans 2 s
     else if wakeRefused s then ans 6 s
     else (portCause e.port (atBoundarySeq .s0 e c), none))
  else if lastBusy s then ans 2 s
  else if t = .s1 then (atBoundarySeq .s1 e c, none)
  else (beginDown t (some (e.port, e.tag)) false c, none)

/-- PWR_STATE_SET. -/
def execPwrStateSet (r : Req) (s : State) : Out := opcode 0x101 doPwrStateSet r s

end Sys2Proof.Machine
end

