-- ==== Sys2Proof/Machine/PowerMgr.lean ====
section
/-! DEFINITION. The power manager: limits moved under the slew limit, issue, throttling, filler, warm-up
and normal service, frame by frame (R272, R273, R275 to R282). -/

namespace Sys2Proof.Machine

/-! ## The limit in force (R28, R272, R278) -/

/-- The slew of one frame in W: 200 W per millisecond (R278). -/
def slewW (pUs : Nat) : Nat := pUs / 5

/-- The lowest of the limits whose reductions are exempt from the slew limit: COOL_DEGRADED and the brake
(R28). -/
def exemptLimit (s : State) : Nat :=
  (lowestOf ((activeLimits s).filter fun l => l.1 == 5 || l.1 == 6)).2

/-- The limit in force moved toward the lowest active limit (R28, R278). -/
def movedLimit (s : State) (pUs : Nat) : Nat :=
  let a := min s.pwr.inForceW (exemptLimit s)
  let t := lowestLimit s
  if a < t then min t (a + slewW pUs) else max t (a - slewW pUs)

/-! ## Throttling (R275, R276) -/

/-- The reading of cluster n's sensor in 1/64 K, while its die is powered: a pair with no valid member reads 150 °C,
but for one whose die has just come up (R275, R300, R301). DEDUCED: of a pair, the member that gives the reading
names the cluster, the even one where none does (notes/assumptions/60). -/
def clusterTemp (s : State) (n : Nat) : Option Int :=
  let x := sensorOf s n
  let y := sensorOf s ((partner n).getD n)
  if !dieOn s (n / 16) then none
  else if sensorValid x then some (reading s n)
  else if n % 2 = 0 ∧ sensorValid y = false ∧ (x.dieOff && y.dieOff) = false then some (faultValue n)
  else none

/-- The hotter of two, the first on a tie. -/
def hotter (a : Option (Nat × Int)) (b : Nat × Int) : Option (Nat × Int) :=
  match a with
  | none => some b
  | some x => if x.2 < b.2 then some b else some x

/-- A sensor reads at or above T_THROTTLE. -/
def throttles (s : State) (t : Int) : Bool := decide ((s.pwr.tThrottle : Int) * 64 ≤ t)

/-- The hottest cluster with its reading: of those that read at or above T_THROTTLE (R275). -/
def hottest (s : State) : Option (Nat × Int) :=
  (List.range 64).foldl (fun a n => match clusterTemp s n with
                                    | none => a
                                    | some t => if throttles s t then hotter a (n, t) else a) none

/-- The cluster that a throttling command is about: the divided one, or the hottest while none is divided (R275). -/
def watched (s : State) : Option (Nat × Int) :=
  if s.pwr.dReq = 0 then hottest s else (clusterTemp s s.pwr.thrCluster).map fun t => (s.pwr.thrCluster, t)

/-- t_sync in ns of the active Last (R86, R88). DEDUCED: it is 0 in a one-package job of either version
(notes/assumptions/61). -/
def tSync (img : List Word) : Nat := if imgMembers img = 1 then 0 else if imgScope img then 2700 else 900

/-- u of R276: the time of t_sync in units of P/256, rounded up. -/
def syncUnits (img : List Word) : Nat :=
  (256 * tSync img + 1000 * periodUs (imgPeriod img) - 1) / (1000 * periodUs (imgPeriod img))

/-- d_slack for a cluster in frame f (R276). -/
def dSlack (img : List Word) (cl f : Nat) : Nat :=
  let b := 256 - recSlack (annotRec img f) cl
  let u := syncUnits img
  (((List.range 9).reverse.find? fun d => decide (b * 16 ≤ (16 - d) * (256 - u)))).getD 0

/-- The largest and the smallest d_slack of the loop for the divided cluster. -/
def dSlackMax (s : State) : Nat :=
  ((List.range (loopFrames s.last.active)).map (dSlack s.last.active s.pwr.thrCluster)).foldl max 0
def dSlackMin (s : State) : Nat :=
  ((List.range (loopFrames s.last.active)).map (dSlack s.last.active s.pwr.thrCluster)).foldl min 8

/-- The division applied in frame f (R276). -/
def dApplied (s : State) (f : Nat) : Nat :=
  if s.pwr.escalated || s.last.st != .running then s.pwr.dReq
  else min s.pwr.dReq (dSlack s.last.active s.pwr.thrCluster f)

/-- PWR_THROTTLE names a cluster and its sensor's reading. -/
def noteCluster (n : Nat) (t : Int) (s : State) : State :=
  s.onPwr fun p => { p with thrCluster := n, thrTemp := ofInt 8 (quant ((t : Rat) / 64)) }

/-- At a boundary the division moves to the hottest cluster; without one, the cluster named stays with its reading
(R275, R290). -/
def noteHottest (s : State) : State :=
  match hottest s with
  | some (n, t) => noteCluster n t s
  | none =>
    match clusterTemp s s.pwr.thrCluster with
    | some t => noteCluster s.pwr.thrCluster t s
    | none => s

/-- THROTTLE_RISE: 1 ms with the watched cluster's sensor at or above T_THROTTLE: d_req rises, to 8 in
escalation and without a RUNNING Last, else to the loop's largest d_slack (R275, R276). -/
def execThrottleRise (s : State) : Out :=
  live s <|
    match watched s with
    | none => s
    | some (n, t) =>
      if mpRuns s && computeOn s && throttles s t then
        let s1 := pwrEvent 2 (noteCluster n t s)
        let top := if s1.pwr.escalated || s1.last.st != .running then 8 else dSlackMax s1
        s1.onPwr fun p => { p with dReq := max p.dReq (min top (p.dReq + 1)) }
      else s

/-- THROTTLE_FALL: 10 ms with the divided cluster's sensor below T_THROTTLE − 3 K; escalation ends at 0 (R275,
R276). -/
def execThrottleFall (s : State) : Out :=
  live s <|
    match clusterTemp s s.pwr.thrCluster with
    | none => s
    | some t =>
      if mpRuns s && decide (t < ((s.pwr.tThrottle : Int) - 3) * 64) && decide (0 < s.pwr.dReq) then
        (noteCluster s.pwr.thrCluster t s).onPwr fun p =>
          { p with dReq := p.dReq - 1, escalated := p.escalated && decide (1 < p.dReq) }
      else s

/-- d_req has stopped at the loop's largest d_slack although the ladder asks for more than some frame's d_slack
(R276). DEDUCED: the division asked for is one more than the d_req that stopped, at most 8 (notes/assumptions/145). -/
def slackStops (s : State) : Bool :=
  decide (dSlackMax s ≤ s.pwr.dReq) && decide (dSlackMin s < min 8 (s.pwr.dReq + 1))

/-- PWR_THROTTLE_ESCALATE: d_req has stood there for 10 ms with the sensor still at or above T_THROTTLE (R276). -/
def execPwrThrottleEscalate (s : State) : Out :=
  live s <|
    match watched s with
    | none => s
    | some (n, t) =>
      if mpRuns s && s.last.st == .running && !s.pwr.escalated && throttles s t && slackStops s then
        raise Ev.pwrThrottleEscalate [(1, n)] (pwrEvent 3 (s.onPwr fun p => { p with escalated := true }))
      else s

/-! ## The thermal-state limit (R99, R272) -/

/-- The on-die readings of R272 in 1/64 K, taken as pairs (R301). -/
def dieReadings (s : State) : List Int := (List.range 64).filterMap (clusterTemp s)

/-- THERMAL_LIMIT_RELEASE: every on-die sensor has read below 105 °C for 1 s (R272). -/
def execThermalLimitRelease (s : State) : Out :=
  live s (if (dieReadings s).all fun t => decide (t < 105 * 64) then s.onPwr fun p => { p with thermal800 := false } else s)

/-- SHED_LIMIT_RISE: 100 ms with no stretch above 0.125 × P: 16 W up, until the limit is removed
(R99). -/
def execShedLimitRise (s : State) : Out := live s (s.onPwr fun p => { p with shedW := min 1600 (p.shedW + 16) })

/-- The shed of R99: 80 W down, to no less than 400 W. -/
def shedLower (s : State) : State := s.onPwr fun p => { p with shedW := max 400 (p.shedW - 80) }

/-! ## Ramp and normal service (R279) -/

/-- R_ramp in W/s from the measured flow in mL/min (R279); no flow allows no change. -/
def rampRate (flowMl : Int) : Rat :=
  if flowMl ≤ 0 then 0 else 5 / (14 / 1000 + 1 / ((flowMl : Rat) * 102 * 375 / 600000))

/-- The package is in normal service (R279). -/
def normalService (s : State) : Bool :=
  s.pwr.pstate == .s0 && s.last.st == .running && !s.pwr.startup && !s.isl.coolDegraded && !s.pwr.brake &&
  !tripLatched s && (match s.pwr.coldStart with
                     | none => true
                     | some t => decide (t + 10000000 ≤ s.log.elapsed))

/-! ## Filler (R277 to R281) -/

/-- The annotated power of a frame in mW. -/
def annotMw (img : List Word) (f : Nat) : Nat := frameUj img f * 1000 / periodUs (imgPeriod img)

/-- The keep-warm floor in mW (R281). -/
def floorMw (s : State) : Nat :=
  if s.pwr.keepWarm && (s.last.st == .loaded || lastBusy s) then 1000 * min 240 (lowestLimit s) else 0

/-- Frame f + d of the loop, where d is in [-320, 320]: before the first frame of pass 0 there is none. -/
def loopFrame (img : List Word) (looped : Bool) (f : Nat) (d : Int) : Option Nat :=
  let i := (f : Int) + d
  if i < 0 ∧ looped = false then none else some (i % (loopFrames img : Int)).toNat

/-- The power in mW that early and held filler give frame f: the annotated powers around it, each less the
slew to it, and the floor (R278, R281); `looped` says that an earlier pass stands before frame 0. DEDUCED
(notes/assumptions/62). -/
def envelopeMw (s : State) (looped : Bool) (f : Nat) : Nat :=
  let img := s.last.active
  let sl := 1000 * slewW (periodUs (imgPeriod img))
  ((List.range 641).map fun (i : Nat) =>
    let d : Int := (i : Int) - 320
    match loopFrame img looped f d with
    | none => 0
    | some g => annotMw img g - sl * d.natAbs).foldl max (floorMw s)

/-- The mean annotated power of the Last's first 10 ms in mW (R280). -/
def warmMeanMw (s : State) : Nat :=
  let n := 10000 / periodUs (imgPeriod s.last.active)
  ((List.range n).map fun i => annotMw s.last.active (i % loopFrames s.last.active)).foldl (· + ·) 0 / n

/-- The warm-up target: that mean within the active limits (R280). -/
def warmTargetMw (s : State) : Nat := min (warmMeanMw s) (1000 * lowestLimit s)

/-- WARM_REACHED: the package's power, in whole W, has reached the mean itself, whatever limit cut the warm-up short
(R280, R282). DEDUCED (notes/assumptions/146). -/
def execWarmReached (s : State) : Out :=
  live s
    (if s.last.st == .loaded && mpRuns s && decide (warmMeanMw s / 1000 ≤ s.pwr.pkgW) then
       s.onPwr fun p => { p with warm := true }
     else s)

/-- The filler planned for frame f of a running Last, in mW: never above the lowest limit (R277). -/
def runFillerMw (s : State) (looped : Bool) (f : Nat) : Nat :=
  min (envelopeMw s looped f) (1000 * lowestLimit s) - annotMw s.last.active f

/-- The die energies of frame f as power in mW: what a switch frame carries (R306). -/
def dieMw (img : List Word) (f : Nat) : Nat :=
  ((List.range 4).map (dieUj img (annotRec img f))).foldl (· + ·) 0 * 1000 / periodUs (imgPeriod img)

/-- The filler planned for a switch frame after frame f. -/
def switchFillerMw (s : State) (looped : Bool) (f : Nat) : Nat :=
  min (envelopeMw s looped f) (1000 * lowestLimit s) - dieMw s.last.active f

/-! ## History (R273, R279) -/

/-- The measured energy in µJ of the last so many µs of a history. -/
def recentUj : Nat → List PastFrame → Nat
  | _, [] => 0
  | us, h :: t => if us < h.us then h.uj * us / h.us else h.uj + recentUj (us - h.us) t

/-- The length of a history in µs. -/
def historyUs (l : List PastFrame) : Nat := (l.map fun h => h.us).foldl (· + ·) 0

/-- In normal service, the energy in µJ that leaves the 100 ms mean as a frame of p µs ends, and by how much that
frame's own may differ from it; none before 100 ms have been measured (R279). -/
def rampUj (s : State) (pUs : Nat) : Option (Nat × Rat) :=
  let h := s.pwr.history
  if s.pwr.normal && decide (100000 ≤ historyUs h) then
    some (recentUj 100000 h - recentUj (100000 - pUs) h, rampRate (packageFlow s) * (pUs : Rat) / 10)
  else none

/-! ## The filler of the next frame (R277 to R281) -/

/-- The energy of the clusters with a CORE slot in frame f, in µJ. -/
def coreUj (img : List Word) (f : Nat) : Nat :=
  imgLsb img * ((coreClusters img f).eraseDups.map (recEnergy (annotRec img f))).foldl (· + ·) 0

/-- It as power in mW. -/
def coreMw (img : List Word) (f : Nat) : Nat := coreUj img f * 1000 / periodUs (imgPeriod img)

/-- The work of the frame that begins, in mW: a running Last's annotation, the die energies of a switch frame; else
what the package drew beside filler and CORE slots. -/
def workMw (s : State) (pkgMw coreEnded : Nat) : Nat :=
  if s.last.st = .running then
    (if s.last.inSwitch then dieMw s.last.active s.last.f else annotMw s.last.active s.last.f)
  else pkgMw - s.pwr.fillerMw - coreEnded

/-- The power in mW that filler is to bring the package to (R277, R278, R280, R281): the plan of a running Last,
warm-up at R_ramp and hold while LOADED, the floor while PAUSED. -/
def plannedMw (s : State) (pUs pkgMw : Nat) : Nat :=
  match s.last.st with
  | .running => envelopeMw s (s.last.pass != 0) s.last.f
  | .paused => floorMw s
  | .loaded =>
    let step := (rampRate (packageFlow s) * (pUs : Rat) / 1000).floor.toNat
    max (floorMw s) (if s.pwr.warm then warmTargetMw s else min (warmTargetMw s) (pkgMw + step))
  | _ => 0

/-- The power below which filler holds the package: a fall is at most the slew from what was measured, and in normal
service within R_ramp (R278, R279). -/
def heldMw (s : State) (pUs pkgMw : Nat) : Nat :=
  max (pkgMw - 1000 * slewW pUs)
    (match rampUj s pUs with
     | none => 0
     | some (old, d) => (((old : Rat) - d) * 1000 / (pUs : Rat)).floor.toNat)

/-- The filler of the frame that begins in mW, from the power measured over the frame that ended and the part of it
that its CORE slots took: the plan, at most one slew step up, or the hold, and never above the lowest limit (R277 to
R281). DEDUCED (notes/assumptions/62). -/
def nextFillerMw (s : State) (pUs pkgMw coreEnded : Nat) : Nat :=
  let up := if s.last.st = .running then plannedMw s pUs pkgMw
            else min (plannedMw s pUs pkgMw) (pkgMw + 1000 * slewW pUs)
  min (max up (heldMw s pUs pkgMw)) (1000 * lowestLimit s) - workMw s pkgMw coreEnded

/-! ## Issue (R273) -/

/-- The energy bounds of a frame in µJ at limit L, after a frame that drew so many W: the frame's own, that of any
10 ms, a slew step up, and in normal service that of the ramp over 100 ms (R273, R278, R279). -/
def energyFits (s : State) (l pUs pkgW uj : Nat) : Bool :=
  decide (uj ≤ min (2000 * pUs) (5 * l * pUs / 4)) &&
  decide (recentUj (10000 - pUs) s.pwr.history + uj ≤ 10000 * l) &&
  decide (uj ≤ (pkgW + slewW pUs) * pUs) &&
  (match rampUj s pUs with
   | none => true
   | some (old, d) => decide ((uj : Rat) ≤ (old : Rat) + d))

/-- The issue fraction of frame f: the largest that keeps the bounds (R273). FREE VALUE: what energy the
power manager expects of a fraction (notes/assumptions/57). -/
def issueFor (s : State) (l pUs pkgW f : Nat) : Nat :=
  ((List.range 17).reverse.find? fun k =>
    energyFits s l pUs pkgW (Config.frameEnergy (frameUj s.last.active f) (coreUj s.last.active f)
      ((s.pwr.history.take 10).map fun h => (h.uj, h.annot)) k)).getD 0

/-! ## A frame boundary -/

/-- A frame that ends, with its mean power in W and its stretch in ps (R98, R273). -/
def pastFrame (s : State) (stretch pkgW : Nat) : PastFrame :=
  let us := framePeriod s + stretch / 1000000
  { uj := pkgW * us, us := us
    annot := if s.last.st == .running && !s.last.inSwitch then frameUj s.last.active s.last.f else 0 }

/-- The part of a frame that its CORE slots took, in mW. -/
def coreEndedMw (s : State) : Nat :=
  if s.last.st == .running && !s.last.inSwitch then coreMw s.last.active s.last.f else 0

/-- What the power manager does at the boundary that begins a frame, with the frame that ended and what its CORE slots
took (R272, R273, R278 to R281). While the MP is in reset the issue fraction and the limit stand (R486). -/
def powerFrame (h : PastFrame) (pkgW coreEnded : Nat) (s : State) : State :=
  let pUs := framePeriod s
  let s0 := s.onPwr fun p => { p with pkgW := pkgW, history := (h :: p.history).take 4000 }
  if !mpRuns s then s0
  else
    let s1 := s0.onPwr fun p => { p with inForceW := movedLimit s0 pUs, normal := normalService s0 }
    let s2 := (noteHottest s1).onPwr fun p => { p with dApplied := dApplied (noteHottest s1) s1.last.f }
    s2.onPwr fun p =>
      { p with issue := if s2.last.st == .running && !s2.last.inSwitch then
                          issueFor s2 s2.pwr.inForceW pUs pkgW s2.last.f
                        else p.issue
               fillerMw := nextFillerMw s2 pUs (1000 * pkgW) coreEnded }

end Sys2Proof.Machine
end

