-- ==== Sys2Proof/Machine/Welt.lean ====
section
/-! DEFINITION. Welt: leak trips, sense faults, flow balance, the valve test, the thermal latch, the LEDs,
and the registers and opcodes of the block (R375 to R395). -/

namespace Sys2Proof.Machine

/-! ## Registers (R390 to R394) -/

def regWeltStat (w : WeltBlk) : Word :=
  mkW [(31, bn w.leakTrip), (30, bn w.thermTrip), (29, bn w.test.isSome), (20, w.tripSrc), (8, w.thermCh),
       (0, w.senseFault.toNat)]
def regWeltCtl (w : WeltBlk) : Word := mkW [(16, w.locate), (8, bn w.flowAction), (0, w.arm.toNat)]
def regWeltFlow (w : WeltBlk) : Word := mkW [(24, w.winS), (0, w.imbMl)]
def regWeltTest (w : WeltBlk) : Word := mkW [(24, w.result), (12, w.pStart.toNat), (0, w.pEnd.toNat)]
def regWeltSense (w : WeltBlk) (i : Nat) : Word := mkW [(16, vget w.thresh i 0), (0, vget w.level i 0 % 65536)]

/-- A read of the WELT block. -/
def regWelt (s : State) (off : Nat) : Word :=
  if off = 0x00 then regWeltStat s.welt
  else if off = 0x04 then regWeltCtl s.welt
  else if off = 0x08 then s.welt.event
  else if off = 0x0C then regWeltFlow s.welt
  else if off = 0x10 then regWeltTest s.welt
  else if 0x20 ≤ off ∧ off < 0x3C then regWeltSense s.welt ((off - 0x20) / 4)
  else 0

/-! ## Indicators (R387) -/

/-- What an indicator shows. -/
inductive Lamp where
  | off | on | blink
deriving DecidableEq, Repr

/-- `LED_AMB#`. -/
def ledAmber (s : State) : Lamp :=
  if tripLatched s then .on
  else if s.isl.coolDegraded || s.welt.senseFault != 0 || fld s.vlv.event 0 20 != 0 || bitOf s.vlv.event 30 then .blink
  else .off

/-- `LED_BLU#`. -/
def ledBlue (s : State) : Lamp := if s.welt.locate = 0 then .off else if s.welt.locate = 1 then .on else .blink

/-! ## The trip (R377 to R380) -/

/-- A leak input reads wet (R376). -/
def inputWet (w : WeltBlk) (i : Nat) : Bool := decide (vget w.thresh i 0 ≤ vget w.level i 0)

/-- An armed input reads wet. -/
def anyWet (w : WeltBlk) : Bool := (List.range 6).any fun i => w.arm.getLsbD i && inputWet w i

/-- The leak trip: latches, `TRAY_KILL#`, the leak frame, the record, and every rail off at once, without
PDSEQ_RAILFAIL (R28, R266, R377 to R380). -/
def leakTripOp (src : Nat) (s : State) : State :=
  if s.welt.leakTrip then s
  else
    let s1 := abortVTest (s.onWelt fun w =>
      { w with leakTrip := true, killLatch := true, tripSrc := src, event := setBit w.event 0 })
    let s2 := healthBit 7 (s1.onPwr fun p => { p with issueStopped := p.pg.extractLsb' 4 4 != 0 })
    let s3 := queueLeak (onRowCh true (fun c => { c with leakCount := 0 })
      (onRowCh false (fun c => { c with leakCount := 0 }) s2))
    let s4 := raise Ev.leakTrip ((1, src) :: (List.range 6).map fun i => (2, vget s.welt.level i 0)) s3
    allOff s4

/-- LEAK_TRIP: three consecutive samples of an input at or above its THRESH; the levels of the six inputs
are those of that instant. An input that is not armed does not trip (R376, R377). -/
def execLeakTrip (input : Fin 6) (levels : List Nat) (s : State) : Out :=
  let s1 := s.onWelt fun w => { w with level := w.level.mapFinIdx fun i x _ => levels.getD i x }
  live s
    (if s.welt.arm.getLsbD input.val then
       leakTripOp (input.val + 1) (s1.onWelt fun w => { w with dryFrom := some s.log.elapsed })
     else s1)

/-- WELT_SENSE_FAULT: an input below 2.0 µS for 1 s is open (R376). -/
def execWeltSenseFault (input : Fin 6) (s : State) : Out :=
  live s
    (if s.welt.senseFault.getLsbD input.val then s
     else
       raise Ev.weltSenseFault [(1, input.val)]
         (s.onWelt fun w => { w with senseFault := w.senseFault ||| (1#6 <<< input.val), event := setBit w.event 2 }))

/-- WELT_SENSE_RECOVERED: 1 s above 2.0 µS (R376). -/
def execWeltSenseRecovered (input : Fin 6) (s : State) : Out :=
  live s (s.onWelt fun w => { w with senseFault := w.senseFault &&& ~~~(1#6 <<< input.val) })

/-! ## Clearing (R381, R386) -/

/-- Every armed input has read below its THRESH for 10 s from the last wet sample or the first sample (R381). FREE
VALUE: the samples between two ticks (notes/assumptions/169). -/
def leakDry (s : State) : Bool :=
  !anyWet s.welt && Config.dryBetween s.log.elapsed &&
    s.welt.dryFrom.any fun t => decide (t + 10000000 ≤ s.log.elapsed)

/-- CLEAR_LEAK: with the trip latched it clears, or is refused with an event. -/
def clearLeak (dry : Bool) (s : State) : State :=
  if !s.welt.leakTrip then s
  else if dry then
    raise Ev.leakCleared [] (s.onWelt fun w => { w with leakTrip := false, tripSrc := 0, killLatch := false })
  else s.onWelt fun w => { w with event := setBit w.event 5 }

/-- CLEAR_LEAK: `dryLongEnough` says that no sample of an armed input was wet for 10 s. -/
def execClearLeak (dryLongEnough : Bool) (s : State) : Out := live s (clearLeak (dryLongEnough && leakDry s) s)

/-- The 10 s after a thermal trip have passed. -/
def thermOver (s : State) : Bool := decide (s.welt.tripAt + 10000000 ≤ s.log.elapsed)

/-- CLEAR_THERM: the latch clears at least 10 s after the trip (R386). -/
def clearTherm (s : State) : State :=
  if s.welt.thermTrip && thermOver s then
    s.onWelt fun w => { w with thermTrip := false, thermLatch := false }
  else s

/-- CLEAR_THERM. -/
def execClearTherm (s : State) : Out := live s (clearTherm s)

/-! ## Flow balance (R383) -/

/-- The evaluation is suspended: a faulted meter, a low package flow, a valve test or the time after one. -/
def flowSuspended (s : State) : Bool :=
  (sensorOf s 80).fault || (sensorOf s 81).fault || decide (packageFlow s < 500) || s.welt.test.isSome ||
  decide (0 < s.welt.suspendS)

/-- The window's volume difference in mL. -/
def flowDiff (l : List (Nat × Nat)) : Int :=
  ((l.map fun x => x.1).foldl (· + ·) 0 : Nat) - ((l.map fun x => x.2).foldl (· + ·) 0 : Nat)

/-- FLOW_BALANCE_EVALUATION: once a second, with the volumes of that second. -/
def execFlowBalanceEvaluation (supplyMl returnMl : Nat) (s : State) : Out :=
  live s
    (if flowSuspended s then
       s.onWelt fun w => { w with flow := [], episode := false, suspendS := w.suspendS - 1 }
     else
       let l := ((supplyMl, returnMl) :: s.welt.flow).take s.welt.winS
       let s1 := s.onWelt fun w => { w with flow := l }
       if l.length < s.welt.winS then s1
       else if flowDiff l ≤ (s.welt.imbMl : Int) then s1.onWelt fun w => { w with episode := false }
       else
         let s2 := if s.welt.episode then s1
           else raise Ev.flowImbalance [] (s1.onWelt fun w => { w with episode := true, event := setBit w.event 3 })
         if s.welt.flowAction then leakTripOp 7 s2 else s2)

/-! ## The valve test (R384) -/

/-- An external channel is driven closed: a normally closed one loses its current, a normally open one is
energised without an end. -/
def driveClosed (k : Nat) (s : State) : State :=
  let s1 := onValve k (fun c => { c with phase := .closed, endAt := some 0, pend := none }) s
  if (xvOf s k).no then startProfile k (onValve k (fun c => { c with endAt := none }) s1) else s1

/-- A slot in CLOSED or TEST selects an external channel. -/
def xvShut (s : State) (n : Nat) : Bool :=
  s.ctl.slots.toList.any fun x => x.outKind == 2 && x.outIndex == n && (x.mode == .closed || x.mode == .test)

/-- VALVE_TEST's effect. -/
def doValveTest (e : Ctx) (s : State) : State × Answer :=
  let w := wd e.words 0
  let a := fld w 18 2
  let b := fld w 16 2
  let d := clampN 5 60 (fld w 0 8)
  let l := clampN 1 1000 (fld (wd e.words 1) 0 16)
  let ws := [mkW [(18, a), (16, b), (0, d)], w32 l]
  if inS0S1 s || s.welt.leakTrip || forcedStands s || a = b || xvShut s a || xvShut s b then (s, some (6, ws))
  else if s.welt.test.isSome then (s, some (2, ws))
  else
    let t : VTest := { xvIn := a, xvOut := b, duration := d, limit := l, priorIn := valveOf s (16 + a)
                       priorOut := valveOf s (16 + b) }
    let s1 := driveClosed (16 + b) (driveClosed (16 + a) s)
    (s1.onWelt fun w => { w with test := some t, flow := [], episode := false }, some (0, ws))

/-- VALVE_TEST. -/
def execValveTest (r : Req) (s : State) : Out := opcode 0x905 doValveTest r s

/-- VALVE_TEST_START_SAMPLE: P_START; below 20 kPa the test aborts. -/
def execValveTestStartSample (p : BitVec 12) (s : State) : Out :=
  live s
    (if s.welt.test.isSome then
       let s1 := s.onWelt fun w => { w with pStart := p, level := vmod w.level 6 fun _ => p.toNat }
       if p.toNat < 200 then abortVTest s1 else s1
     else s)

/-- VALVE_TEST_RESULT: P_END, and pass when the pressure fell by at most LIMIT. -/
def execValveTestResult (p : BitVec 12) (s : State) : Out :=
  live s
    (match s.welt.test with
     | none => s
     | some t =>
       let s1 := s.onWelt fun w => { w with pEnd := p, level := vmod w.level 6 fun _ => p.toNat }
       endVTest (if s.welt.pStart.toNat ≤ p.toNat + t.limit then 1 else 2) s1)

/-! ## Writes and opcodes (R382, R391 to R395) -/

/-- The inputs that a new ARM value disarms are logged, in ascending order (R382). -/
def logDisarm (old new : BitVec 6) (s : State) : State :=
  (List.range 6).foldl (fun s i =>
    if old.getLsbD i && !new.getLsbD i then raise Ev.weltDisarm [(1, i)] s else s) s

/-- WELT_CTL's stored fields written. -/
def putWeltCtl (x : Word) (s : State) : State :=
  let arm : BitVec 6 := x.setWidth 6
  logDisarm s.welt.arm arm (s.onWelt fun w =>
    { w with locate := min 2 (fld x 16 2), flowAction := bitOf x 8, arm := arm })

/-- WELT_FLOW written; a write of WIN_S empties the window (R383). -/
def putWeltFlow (x : Word) (win : Bool) (s : State) : State :=
  s.onWelt fun w =>
    { w with winS := clampN 1 60 (fld x 24 8), imbMl := clampN 10 5000 (fld x 0 16)
             flow := if win then [] else w.flow }

/-- The CLEAR bits of a write that act; `dry` is judged before the write, since an input that it disarms
counts until its next sample (R381, R382). -/
def weltClears (x : Word) (dry : Bool) (s : State) : State :=
  (s.whenB (bitOf x 31) (clearLeak dry)).whenB (bitOf x 30) clearTherm

/-- A write of the WELT block. -/
def weltWrite (off : Nat) (be : BitVec 4) (w : Word) (s : State) : State :=
  if off = 0x04 then
    weltClears (w &&& beMask be) (leakDry s) (putWeltCtl (wRW 0x0003013F#32 (regWeltCtl s.welt) w be) s)
  else if off = 0x08 then s.onWelt fun x => { x with event := wW1C 0x3F#32 x.event w be }
  else if off = 0x0C then putWeltFlow (wRW 0xFF00FFFF#32 (regWeltFlow s.welt) w be) (be.getLsbD 3) s
  else if 0x20 ≤ off ∧ off < 0x38 then
    let i := (off - 0x20) / 4
    let v := fld (wRW 0xFFFF0000#32 (regWeltSense s.welt i) w be) 16 16
    s.onWelt fun x => { x with thresh := vmod x.thresh i fun _ => clampN 0x40 0x4000 v }
  else s

/-- WELT_STATUS. -/
def execWeltStatus (r : Req) (s : State) : Out :=
  opcode 0x230 (fun _ s =>
    (s, some (0, [regWeltStat s.welt, regWeltCtl s.welt, s.welt.event, regWeltFlow s.welt, regWeltTest s.welt] ++
      (List.range 7).map (regWeltSense s.welt)))) r s

/-- WELT_ARM's effect. -/
def doWeltArm (e : Ctx) (s : State) : State × Answer :=
  let w1 := wd e.words 0
  let w3 := wd e.words 2
  let th := clampN 0x40 0x4000 (fld w3 0 16)
  let s1 := putWeltFlow (wd e.words 1) true (putWeltCtl w1 s)
  let s2 := s1.onWelt fun w =>
    { w with thresh := w.thresh.mapFinIdx fun i x _ => if bitOf w3 (16 + i) then th else x }
  let t := weltClears w1 (leakDry s) s2
  let lk := bn (s2.welt.leakTrip && !t.welt.leakTrip)
  let tk := bn (s2.welt.thermTrip && !t.welt.thermTrip)
  (t, some (0, [regWeltCtl t.welt ||| mkW [(31, lk), (30, tk)], regWeltFlow t.welt,
                mkW [(16, fld w3 16 6), (0, th)]]))

/-- WELT_ARM. -/
def execWeltArm (r : Req) (s : State) : Out := opcode 0x231 doWeltArm r s

end Sys2Proof.Machine
end

