-- ==== Sys2Proof/Machine/Island.lean ====
section
/-! DEFINITION. The cooling island: the control tick, the forecaster, Toecap, island power-up and the
registers and opcodes of the ISL block and the health summary (R292 to R320, R385, R194 to R197). -/

namespace Sys2Proof.Machine

/-! ## Registers (R314 to R319, R194 to R197) -/

def regIslStat (s : State) : Word :=
  let i := s.isl
  mkW [(11, bn i.flowValid), (10, bn i.noLast), (9, bn i.stale), (8, bn i.plausWindow), (4, bn i.forced),
       (3, bn i.coolDegraded), (2, bn i.toecapExpired), (1, bn (i.tickHist != 0)), (0, bn i.fwRun)]

def regToecapCtl (i : IslBlk) : Word := mkW [(16, bn i.updateArm), (0, i.timeoutMs)]
def regFcastStat (i : IslBlk) : Word := mkW [(16, min 65535 i.measW), (0, min 65535 i.nextW)]

/-- A read of the ISL block. -/
def regIsl (s : State) (off : Nat) : Word :=
  if off = 0x00 then regIslStat s
  else if off = 0x04 then s.isl.tick
  else if off = 0x08 then regToecapCtl s.isl
  else if off = 0x10 then w32 s.isl.lead
  else if off = 0x14 then regFcastStat s.isl
  else if 0x20 ≤ off ∧ off < 0x2C then regSensFault s ((off - 0x20) / 4)
  else if 0x100 ≤ off ∧ off < 0x248 then regSensVal s ((off - 0x100) / 4)
  else 0

/-- A register of the health summary, by tray offset from 0x00C0. -/
def regHealth (s : State) (off : Nat) : Word :=
  if off = 0x00 then s.health.state
  else if off = 0x04 then s.health.thermal
  else if off = 0x08 then s.health.power
  else if off = 0x0C then (doneBits s.port.tray).setWidth 32
  else if off = 0x10 then ((doneBits s.port.tray) >>> 32).setWidth 32
  else 0

/-! ## The forecaster (R21, R22, R305 to R308) -/

/-- Zone powers of the die energies alone with a filler in mW: the switch frame (R306). -/
def dieZonePowers (img : List Word) (f fillerMw : Nat) : List Nat :=
  let p := periodUs (imgPeriod img)
  (List.range 16).map fun k => roundDiv (4000 * dieUj img (annotRec img f) (k / 4) + fillerMw * p) (160 * p)

/-- Frames from now to the armed boundary; none where no switch is armed (R94). -/
def framesToSwitch (s : State) : Option Nat :=
  match s.last.armed with
  | none => none
  | some true => some 1
  | some false => some (loopFrames s.last.active - s.last.f)

/-- Frame i of an image that starts at frame 0. -/
def freshFrame (s : State) (img : List Word) (i : Nat) : Nat × List Nat :=
  let t := s.onLast fun l => { l with active := img, f := 0, pass := 0 }
  let f := i % loopFrames img
  (periodUs (imgPeriod img), zonePowers img f (runFillerMw t (decide (loopFrames img ≤ i)) f))

/-- The frame i ahead of a running Last: its loop, then at the armed boundary the switch frame, then the standby Last
from its frame 0 (R305, R306). -/
def runningFrame (s : State) (i : Nat) : Nat × List Nat :=
  let img := s.last.active
  let n := loopFrames img
  let looped (j : Nat) : Bool := s.last.pass != 0 || decide (n ≤ s.last.f + j)
  let of_ (j : Nat) : Nat × List Nat :=
    let f := (s.last.f + j) % n
    (periodUs (imgPeriod img), zonePowers img f (runFillerMw s (looped j) f))
  match framesToSwitch s with
  | none => of_ i
  | some k =>
    let fb := (s.last.f + k) % n
    if i < k then of_ i
    else if i = k then (periodUs (imgPeriod img), dieZonePowers img fb (switchFillerMw s (looped k) fb))
    else freshFrame s s.last.standby (i - k - 1)

/-- The frames ahead while the switch frame runs: itself, as it was delivered, and the new Last (R94, R306). -/
def switchFrames (s : State) (n : Nat) : List (Nat × List Nat) :=
  let img := if s.last.switched then s.last.active else s.last.standby
  (s.isl.ahead.take 1 ++ (List.range n).map (freshFrame s img)).take n

/-- The entries that the MP delivers for n frames: the running Last's, or the warm-up target of a loaded
one, evenly (R280, R305 to R307). -/
def deliveredFrames (s : State) (n : Nat) : List (Nat × List Nat) :=
  match s.last.st with
  | .running => if s.last.inSwitch then switchFrames s n else (List.range n).map (runningFrame s)
  | .loaded =>
    let mw := max (warmTargetMw s) (floorMw s)
    List.replicate n (framePeriod s, List.replicate 16 (roundDiv mw 160))
  | _ => s.isl.ahead

/-- The delivery of a push. -/
def pushFrames (n : Nat) (s : State) : State :=
  s.onIsl fun i => { i with ahead := deliveredFrames s n, stale := false, lastLimit := lowestLimit s }

/-- ZONE_ENERGY_PUSH. On a collision on the bridge Cobbler wins and the push waits; while one waits, nothing new
starts toward it: a later push waits behind it (R254, R312). -/
def execZoneEnergyPush (frames : Nat) (collides : Bool) (s : State) : Out :=
  live s
    (if !mpRuns s then s
     else if collides || !s.mbx.bridgeRetry.isEmpty then
       s.onMbx fun b => { b with bridgeRetry := b.bridgeRetry ++ [frames] }
     else pushFrames frames s)

/-- BRIDGE_RETRY_REISSUE: the push that was given RETRY is accepted, and those behind it (R254). -/
def execBridgeRetryReissue (s : State) : Out :=
  live s
    (s.mbx.bridgeRetry.foldl (fun t n => if mpRuns s then pushFrames n t else t)
      (s.onMbx fun b => { b with bridgeRetry := [] }))

/-- FORECAST_STALE: 100 ms without an update from the MP, where the MP feeds the forecast (R307). -/
def execForecastStale (s : State) : Out :=
  live s (if inS0S1 s && s.last.st != .empty then s.onIsl fun i => { i with stale := true } else s)

/-- A power in a field of the message. -/
def msgW (w : Nat) : List Byte := leBytes 2 (min 0xFFFF w)

/-- The bins of F0 to F5 (R308). -/
def forecastBins : List (Nat × Nat) := [(0, 2), (2, 10), (10, 50), (50, 100), (100, 200), (200, 500)]

/-- F0 to F5 in W. -/
def forecastW (s : State) : List Nat := forecastBins.map fun x => forecastMean s (framePeriod s) x.1 x.2

/-- MEAS_W: the mean over the last 20 ms. -/
def meanMeas (s : State) : Nat := roundDiv (s.isl.measHist.foldl (· + ·) 0) s.isl.measHist.length

/-- FLAGS of the message. -/
def forecastFlags (s : State) : Nat :=
  bn s.isl.noLast * 128 + bn s.isl.stale * 64 + bn s.isl.coolDegraded * 32 + bn s.pwr.startup * 16

/-- The message of R308. -/
def forecastBytes (s : State) (seq : Byte) : List Byte :=
  BitVec.ofNat 8 (forecastFlags s) :: seq :: (msgW (meanMeas s) ++ (forecastW s).flatMap msgW)

/-- The rack's forecast on channel B: the sums over the packages heard, in units of 4 W (R412). DESIGN
CHOICE: its FLAGS are the sender's own (notes/assumptions/63). -/
def rackBytes (s : State) : List Byte :=
  let l := (s.stew.a.heard.filter fun x => youngerThan s 100000 x.2.at_).map fun x => x.2
  let sum (g : Heard → Nat) : List Byte := msgW ((l.map g).foldl (· + ·) 0 / 4)
  BitVec.ofNat 8 (forecastFlags s) :: 0#8 :: (sum (fun h => h.measW) ++
    (List.range 6).flatMap fun i => sum fun h => h.fs.getD i 0)

/-- The package's own forecast counts as heard on the channels where it sends. -/
def hearOwn (s : State) : State :=
  let h : Heard := { at_ := s.log.elapsed, measW := meanMeas s, fs := forecastW s }
  onStewCh false (fun c => { c with heard := sput c.heard (rowNode s false) h }) s

/-- The rack's forecast counts as heard on channel B from its own rack. -/
def hearOwnRack (s : State) : State :=
  let l := (s.stew.a.heard.filter fun x => youngerThan s 100000 x.2.at_).map fun x => x.2
  let sum (g : Heard → Nat) : Nat := (l.map g).foldl (· + ·) 0 / 4 * 4
  let h : Heard := { at_ := s.log.elapsed, measW := sum fun h => h.measW
                     fs := (List.range 6).map fun i => sum fun h => h.fs.getD i 0 }
  onStewCh true (fun c => { c with heard := sput c.heard (rowNode s true) h }) s

/-- An object's own counter set. -/
def setSeqCnt (n : Nat) (o : Obj) : Obj := { o with seqCnt := n }

/-- FORECAST_SEND at the package's instant on channel A: the message is built, SEQ counts, and with an identity it is
queued in object 3. At the rack's instant on channel B a rack steward sends its rack's forecast (R307, R412). -/
def execForecastSend (b : Bool) (s : State) : Out :=
  let q := s.isl.rackSeq + 1
  let d := forecastBytes s q
  let built := s.onIsl fun i => { i with rackSeq := q, rackMsg := d }
  let v1 := (rowCh s true).sendVer == 1
  let id := (if v1 then 0x1C0 else 0x180) + rowNode s true
  live s
    (if b then
       (if s.lace.idValid && s.stew.a.grantHeld then
          hearOwnRack (sendMsg true id (if v1 then 8 else 10) 1 (rackBytes s) s)
        else s)
     else if !s.lace.idValid then built
     else hearOwn (queueHw false 3 d (onObj false 3 (setSeqCnt s.isl.rackSeq.toNat) built)))

/-! ## The parts of a control tick -/

/-- A committed calibration table takes effect (R303). -/
def tableTick (s : State) : State :=
  match s.isl.calCommit with
  | none => s
  | some l => s.onIsl fun i => applyTable l { i with calCommit := none }

/-- The tick is counted, with its source (R296). -/
def countTick (fromStrobe : Bool) (s : State) : State :=
  s.onIsl fun i =>
    { i with tick := i.tick + 1, tickHist := (i.tickHist <<< 1) ||| (if fromStrobe then 0#16 else 1#16)
             tickInFrame := i.tickInFrame + 1, fireAt := if inS0S1 s then 5500 else 5000 }

/-- The first control tick after island power-up withdraws the forced outputs; they stay while no firmware
runs (R295, R355, R499). -/
def firstTickDone (s : State) : State :=
  if s.isl.fwRun && !s.isl.firstTick then
    withdrawIfFree ((s.onIsl fun i => { i with firstTick := true }).onVlv fun v => { v with forcedPower := false })
  else s

/-- The samples of a channel. -/
def samplesOf (x : TickIn) (c : Nat) : List (Option Rat) := (x.samples.getD c []).take 4

/-- Every channel takes its decimated sample; on-die channels of an unpowered die are faulted (R298 to
R300). -/
def sensorsTick (x : TickIn) (s : State) : State :=
  let s1 := (List.range 4).foldl (fun s d => if dieOn s d then s else dieSensorsOff d s) s
  s1.onIsl fun i => { i with sens := i.sens.mapFinIdx fun c v _ => sensorTick c (samplesOf x c) v }

/-- Measured zone power: a quarter of its die's VDD_CORE and a sixteenth of the other rails, or a sixteenth of what the
regulators report while the MP is off; and from it the package power and its history (R308, R529). -/
def measTick (x : TickIn) (s : State) : State :=
  let p := pmbusPower s
  let z := (List.range 16).map fun k =>
    if mpRuns s then roundDiv (4 * x.coreMeas.getD (k / 4) 0 + x.restMeas) 16 else roundDiv p 16
  let w := roundDiv (if mpRuns s then (x.coreMeas.take 4).foldl (· + ·) x.restMeas else p) 100
  s.onIsl fun i => { i with zoneMeas := z, measW := w, measHist := (w :: i.measHist).take 200 }

/-- The forecaster's registers (R307, R314, R317). -/
def forecastTick (s : State) : State :=
  let s1 := s.onIsl fun i => { i with noLast := s.last.st == .empty
                                      stale := i.stale && inS0S1 s && s.last.st != .empty }
  s1.onIsl fun i => { i with nextW := forecastMean s1 (framePeriod s1) 0 2 }

/-- The thermal part of the thermal-state limit: any on-die sensor at 112 °C or above (R272). -/
def thermalCapTick (s : State) : State :=
  if mpRuns s && !s.pwr.thermal800 && (dieReadings s).any fun t => decide (112 * 64 ≤ t) then
    pwrEvent 4 (s.onPwr fun p => { p with thermal800 := true })
  else s

/-- The Welt levels and the instant of the first or the last wet sample (R381, R394). -/
def weltTick (x : TickIn) (s : State) : State :=
  let s1 := s.onWelt fun w => { w with level := w.level.mapFinIdx fun i v _ => x.welt.getD i v }
  s1.onWelt fun w => { w with dryFrom := if anyWet w || w.dryFrom.isNone then some s.log.elapsed else w.dryFrom }

/-- The levels of the cooling pins (R373). -/
def pinsTick (x : TickIn) (s : State) : State := s.onVlv fun v => { v with pinIn := x.pins }

/-! ## The thermal trip (R385) -/

/-- A channel's own decimated, calibrated reading in 1/64 K. -/
def rawReading (s : State) (x : TickIn) (c : Nat) : Option Rat :=
  (decimate (samplesOf x c)).map fun r => corrected (sensorOf s c) r

/-- What channel c of a powered die brings to the comparison: its partner's reading while it is faulted or
in calibration, and 150 °C when both are faulted (R301, R304, R385). -/
def tripReading (s : State) (x : TickIn) (c : Nat) : Option Rat :=
  let g := sensorOf s c
  let p := (partner c).getD c
  if !dieOn s (c / 16) || g.dieOff then none
  else if g.fault then (if (sensorOf s p).fault then some 9600 else rawReading s x p)
  else if g.cal then rawReading s x p
  else rawReading s x c

/-- The lowest channel that reads at or above a temperature in °C. -/
def tripChannel (s : State) (x : TickIn) (deg : Nat) : Option Nat :=
  (List.range 64).find? fun c => (tripReading s x c).any fun t => decide (((64 * deg : Nat) : Rat) ≤ t)

/-- A running power-down to S3. -/
def goingToS3 (s : State) : Bool :=
  match s.pwr.seq with
  | some q => !q.up && !q.atBoundary && q.target == .s3
  | none => false

/-- The thermal trip of a channel. -/
def thermTripOp (ch : Nat) (s : State) : State :=
  let s1 := s.onWelt fun w =>
    { w with thermTrip := true, thermLatch := true, thermCh := ch, tripAt := s.log.elapsed, event := setBit w.event 1 }
  let s2 := raise Ev.thermalTrip [(1, ch)]
    (healthBit 4 (s1.onPwr fun p => { p with issueStopped := p.pg.extractLsb' 4 4 != 0 }))
  if goingToS3 s2 then s2 else beginDown .s3 (seqReq s2) true s2

/-- The comparison of a tick: 115 °C trips, and 120 °C drops every rail. -/
def tripTick (x : TickIn) (s : State) : State :=
  let s1 := match tripChannel s x 115 with
    | some c => if s.welt.thermTrip then s else thermTripOp c s
    | none => s
  if (tripChannel s x 120).isSome && s1.pwr.en != 0 then allOff s1 else s1

/-! ## The health summary at a tick (R194 to R197) -/

/-- A temperature in 1/64 °C as HS_THERMAL shows it. -/
def healthTemp (t : Int) : Nat := (clampI 0 255 (quant ((t : Rat) / 64))).toNat

/-- The health summary of a tick. An on-die sensor that is faulted or not yet primed counts at the top of its range
(R196, R299, R300). -/
def healthTick (s : State) : State :=
  let tj := if computeOn s then healthTemp (((List.range 64).map (reading s)).foldl max (-2560)) else 0
  let fl := (clampI 0 255 (quant ((packageFlow s : Rat) / 100))).toNat
  let s1 := s.onHealth fun h =>
    { h with thermal := mkW [(24, tj), (16, healthTemp (inletOf s)), (8, healthTemp (outletOf s)), (0, fl)]
             power := if s.pwr.pstate == .s3 then 0 else mkW [(16, min 65535 s.pwr.pkgW), (0, s.pwr.inForceW)] }
  setHealth (healthWord s1) s1

/-! ## The control tick and the strobe (R296) -/

/-- CONTROL_TICK: the table, the count, the first tick, sensors, power, forecast, the thermal limit, the
loops, the valves, the trip and the health summary, in this order. -/
def execControlTick (x : TickIn) (s : State) : Out :=
  let s1 := firstTickDone (countTick x.fromStrobe (tableTick s))
  let s2 := thermalCapTick (forecastTick (measTick x (sensorsTick x s1)))
  let s3 := pinsTick x (weltTick x s2)
  let s4 := s3.whenB s3.isl.firstTick loopsTick
  live s (healthTick (tripTick x (valvesTick s4)))

/-- FRAME_STROBE, so many island cycles after the last tick: at 90 µs or later it produces the tick,
earlier it sets when the counter fires (R296). -/
def execFrameStrobe (cycles : Nat) (s : State) : Out :=
  live s
    (if inS0S1 s then
       s.onIsl fun i => { i with fireAt := if 4500 ≤ cycles then cycles else min 5500 (cycles + 5000) }
     else s)

/-! ## Toecap (R25, R310, R311) -/

/-- Three expiries of the running Cobbler bank within 600 s, outside a trial: the next restart uses the
other bank, if it holds a confirmed image (R487). -/
def bankAfterExpiries (s : State) : State :=
  let f := s.sec.isl
  let l := s.isl.expiries.filter fun x =>
    x.1 == s.log.powerOn.toNat && x.2.2 == bn f.cur && decide (s.log.elapsed < x.2.1 + 600000000)
  let other := if f.cur then f.a else f.b
  if 3 ≤ l.length ∧ other.confirmed = true ∧ other.valid = true then
    raise Ev.fwIslBankSwitch [(1, bn (!f.cur))] (s.onSec fun c => { c with isl := { f with cur := !f.cur } })
  else s

/-- What an expiry does to the power manager (R25, R28, R486). -/
def degrade (s : State) : State :=
  let s1 := (pwrEvent 1 s).onIsl fun i => { i with coolDegraded := true }
  if mpRuns s then s1
  else s1.onPwr fun p => { p with inForceW := min 400 p.inForceW, issue := min 4 p.issue }

/-- Toecap expires. It does not expire again before the processor is released. -/
def expire (s : State) : State :=
  if s.isl.toecapHeld then s
  else
    let bank := bn s.sec.isl.cur
    let s1 := forceOpenAll ((abortVTest s).onVlv fun v => { v with forcedToecap := true })
    let s2 := healthBit 5 (healthBit 6 (degrade (s1.onIsl fun i =>
      { i with forced := true, toecapExpired := true, toecapHeld := true
               expiries := (s.log.powerOn.toNat, s.log.elapsed, bank) :: i.expiries })))
    let s3 := queueFailsafe true (onRowCh true (fun c => { c with failCount := 0 })
      (onRowCh false (fun c => { c with failCount := 0 }) s2))
    let s4 := selfDeclare true (selfDeclare false s3)
    let s5 := raise Ev.toecapExpiry [(1, bank), (4, s.isl.tick.toNat)] s4
    if s.sec.isl.trial then (rollback 2 s5).onIsl trialOver else bankAfterExpiries s5

/-- TOECAP_EXPIRY. -/
def execToecapExpiry (s : State) : Out := live s (expire s)

/-- A write of TOECAP_SERVICE: Cobbler's key services, any other value of Cobbler's expires, other masters'
writes are ignored (R310). Time itself is not counted: the expiry is a command of its own. -/
def toecapWrite (m : Master) (w : Word) (s : State) : State :=
  if m = .cobbler ∧ w ≠ 0x00007E1A#32 then expire s else s

/-- TOECAP_SERVICE. -/
def execToecapService (m : Master) (w : Word) (s : State) : Out :=
  live s (if masterReach s m then toecapWrite m w s else s)

/-- Every slot is supervised in plausibility mode for 30 s after the release of Toecap's forced state (R335). -/
def releaseWindow (s : State) : State :=
  s.onCtl fun c => { c with slots := c.slots.map fun x => { x with plausHold := true } }

/-- The release of Toecap's forced state, ignored during the first second after the restart (R311). -/
def releaseToecap (s : State) : State :=
  if s.isl.forced && !s.isl.toecapHeld && decide (s.isl.restartAt + 1000000 ≤ s.log.elapsed) then
    let s1 := s.onIsl fun i => { i with forced := false, coolDegraded := false }
    queueFailsafe false (releaseWindow (withdrawIfFree (s1.onVlv fun v => { v with forcedToecap := false })))
  else s

/-- The release of the forced command of a rail failure, once the package has been in S3 for 10 s (R355). -/
def releaseRail (s : State) : State :=
  match s.vlv.railS3 with
  | none => s
  | some t =>
    if s.vlv.forcedRail && decide (t + 10000000 ≤ s.log.elapsed) then
      withdrawIfFree (s.onVlv fun v => { v with forcedRail := false, railS3 := none })
    else s

/-- A write of 1 to TOECAP_CTL.RELEASE: Cobbler's only (R310, R316). -/
def toecapRelease (m : Master) (s : State) : State := if m = .cobbler then releaseRail (releaseToecap s) else s

/-- TOECAP_RELEASE. -/
def execToecapRelease (m : Master) (s : State) : Out := live s (if masterReach s m then toecapRelease m s else s)

/-- A write of the ISL block (R255, R316, R317). -/
def islWrite (m : Master) (off : Nat) (be : BitVec 4) (w : Word) (s : State) : State :=
  if off = 0x08 then (if bitOf w 17 && be.getLsbD 2 then toecapRelease m s else s)
  else if off = 0x0C then (if woActs be then toecapWrite m w s else s)
  else if off = 0x10 then s.onIsl fun i => { i with lead := fld (wRW 0x3F#32 (w32 i.lead) w be) 0 6 }
  else s

/-! ## The island processor (R295, R311, R499) -/

/-- The island boot ROM takes the bank last activated, or the other one (R499). -/
def bootIsland (s : State) : State :=
  let f := s.sec.isl
  match bootBank s 2 with
  | some b =>
    (s.whenB (b != f.cur) fun t => raise Ev.islBootFallback [] (t.onSec fun c => { c with isl := { f with cur := b } })).onIsl
      fun i => { i with fwRun := true, bootFail := false }
  | none => raise Ev.islBootFail [] (degrade (s.onIsl fun i => { i with bootFail := true }))

/-- ISLAND_PROCESSOR_RELEASE: Toecap starts a new timeout, and the firmware runs. -/
def execIslandProcessorRelease (s : State) : Out :=
  live s
    (if s.isl.procReset then
       bootIsland (s.onIsl fun i => { i with procReset := false, toecapHeld := false, restartAt := s.log.elapsed })
     else s)

/-! ## Island power (R267, R295, R473, R501) -/

/-- A cluster's part of the repair record, without what waits. -/
def recordOnly (r : ClusterRec) : ClusterRec := { r with change := none, deferred := [] }

/-- A firmware target as flash holds it: transfers are gone. -/
def flashFw (f : Fw) : Fw := { f with armed := false, loading := false, complete := false, words := [] }

/-- What outlives V_ISL: flash, fuses, the latches on V_AUX33, and the levels that the board drives. -/
def withoutPower (s : State) : State :=
  { pending := s.pending, free := s.free
    port := { perst := s.port.perst }
    pwr := { brake := s.pwr.brake, markerClean := s.pwr.markerClean }
    isl := { calA := s.isl.calA, calB := s.isl.calB, calCurB := s.isl.calCurB, expiries := s.isl.expiries }
    welt := { killLatch := s.welt.killLatch, thermLatch := s.welt.thermLatch }
    stew := { push := s.stew.push, tables := s.stew.tables }
    log := { powerOn := s.log.powerOn, pageA := s.log.pageA, pageB := s.log.pageB, curB := s.log.curB
             islNext := s.log.islNext, mainLog := s.log.mainLog, mainNext := s.log.mainNext
             sectorErase := s.log.sectorErase, nextErased := s.log.nextErased, islCopied := s.log.islCopied }
    core := { fuseRetired := s.core.fuseRetired, clusters := s.core.clusters.map recordOnly }
    mem := { systemStack := s.mem.systemStack, stk := s.mem.stk.map fun k => { recRetired := k.recRetired } }
    lace := { idValid := s.lace.idValid, rack := s.lace.rack, slot := s.lace.slot, light0 := s.lace.light0
              light1 := s.lace.light1, retired := s.lace.retired
              lanes := s.lace.lanes.map fun x => { record := x.record } }
    sec := { mp := flashFw s.sec.mp, sec := flashFw s.sec.sec, isl := flashFw s.sec.isl, life := s.sec.life
             pendLife := s.sec.pendLife, revoke := s.sec.revoke, floorMp := s.sec.floorMp
             floorSec := s.sec.floorSec, floorIsl := s.sec.floorIsl, serial := s.sec.serial
             debug := s.sec.debug, repairA := s.sec.repairA, repairB := s.sec.repairB
             repairCurB := s.sec.repairCurB } }

/-- V_ISL_LOSS: nothing is recorded, and every supply of the package is off (R267, R515). -/
def execVIslLoss (s : State) : Out := .next ((withoutPower s).onIsl fun i => { i with on := false })

/-- TRIP_SRC or THERM_CH from the newest record of a code in the island log (R389). -/
def newestArg (s : State) (code : Nat) : Nat :=
  match (islStored s.log).reverse.find? fun x => x.2.code == code with
  | some x => (x.2.arg.getD 0 0).toNat
  | none => 0

/-- Trips are restored from their latches (R389, R517). -/
def restoreTrips (s : State) : State :=
  s.onWelt fun w =>
    { w with leakTrip := w.killLatch, thermTrip := w.thermLatch
             tripSrc := if w.killLatch then newestArg s Ev.leakTrip else 0
             thermCh := if w.thermLatch then newestArg s Ev.thermalTrip else 0 }

/-- The lifecycle state is read from the fuses, and the debug port opens with MANUFACTURE only (R501). -/
def readFuses (s : State) : State :=
  s.onSec fun c =>
    let l := c.pendLife.getD c.life
    { c with life := l, pendLife := none, debug := if l = .manufacture then 2 else 0 }

/-- Banks under trial are left for the banks before them (R487). -/
def trialsBackAll (s : State) : State :=
  (List.range 3).foldl (fun s t => if (s.sec.fw t).trial then rollback t s else s) s

/-- The calibration table is loaded (R293, R303). -/
def loadCal (s : State) : State :=
  match calStored s.isl with
  | some l => s.onIsl (applyTable l)
  | none => raise Ev.calDefault [] (s.onIsl (applyTable calDefaults))

/-- A marker that was not clean (R267); a new marker is written. -/
def checkMarker (s : State) : State :=
  let s1 := s.onPwr fun p => { p with markerClean := false }
  if s.pwr.markerClean then s1
  else raise Ev.uncleanLoss [] (pwrEvent 9 (s1.onHealth fun h => { h with state := setBit h.state 0 }))

/-- ISLAND_POWER_UP: V_ISL becomes good. POWER_ON_COUNT counts first, then the records (R454). -/
def execIslandPowerUp (s : State) : Out :=
  let s0 := withoutPower s
  let s1 := s0.onLog fun l => { l with powerOn := if l.powerOn = 0xFFFFFFFF#32 then l.powerOn else l.powerOn + 1 }
  let s2 := s1.onPwr fun p => { p with wakeCause := setBit p.wakeCause 7 }
  let s3 := checkMarker (raise Ev.islandPowerOn [(4, s2.pwr.wakeCause.toNat)] s2)
  .next (forceOpenAll (loadCal (loadBinding (trialsBackAll (readFuses (restoreTrips s3))))))

/-! ## Cooling opcodes (R320) -/

/-- COOL_STATUS. -/
def execCoolStatus (r : Req) (s : State) : Out :=
  opcode 0x200 (fun _ s =>
    (s, some (0, [regIslStat s, s.isl.tick, regFcastStat s.isl, regSensFault s 0, regSensFault s 1,
                  regSensFault s 2]))) r s

/-- Zone k's near-tier entry LEAD ticks ahead, in 0.1 W. -/
def nearTenth (s : State) (k : Nat) : Nat := min 65535 (nearEntry s k s.isl.lead / 10)

/-- COOL_FORECAST_GET. -/
def execCoolForecastGet (r : Req) (s : State) : Out :=
  opcode 0x201 (fun _ s =>
    (s, some (0, bytesWords (padTo 16 s.isl.rackMsg) ++ (List.range 8).map fun j =>
      mkW [(16, nearTenth s (2 * j + 1)), (0, nearTenth s (2 * j))]))) r s

/-- TOECAP_SET. -/
def execToecapSet (r : Req) (s : State) : Out :=
  opcode 0x202 (fun e s =>
    let t := clampN 10 1000 (fld (wd e.words 0) 0 16)
    if s.isl.updateArm then (s, some (6, [w32 t]))
    else (s.onIsl fun i => { i with timeoutMs := t }, some (0, [w32 t]))) r s

end Sys2Proof.Machine
end

