-- ==== Sys2Proof/Machine/Descr.lean ====
section
/-! DEFINITION. What makes a descriptor legal: its fields in range and its ranges clear of the system
region and of exported windows (R46, R47, R81 to R84, R111, R115, R116, R126, R165, R170, R479). Each check
answers the word of the descriptor that fails, none when it is legal. -/

namespace Sys2Proof.Machine

/-! ## Addresses -/

/-- An SRAM address of n bytes: 64-byte aligned and inside the 384 KiB (R82, R111). DEDUCED: the alignment
holds for every SRAM address, and a transfer of known length ends inside the SRAM (notes/assumptions/74). -/
def sramOk (w : Word) (n : Nat) : Bool := fld w 0 19 % 64 == 0 && decide (fld w 0 19 + max n 1 ≤ 0x60000)

/-- A 48-bit stack address from its words. -/
def addr48 (lo : Word) (hi : Nat) : Nat := lo.toNat + hi * 2 ^ 32

/-- A range of a stack: 64-byte aligned and inside the stack (R84, R115). -/
def hbmIn (addr n : Nat) : Bool := addr % 64 == 0 && decide (addr + n ≤ stackBytes)

/-- A range touches the system region of its stack (R116). -/
def touchesSystem (s : State) (h addr n : Nat) : Bool :=
  s.mem.systemStack == h && decide (0 < n ∧ sysStart < addr + n)

/-- A range touches a valid exported window (R116, R125). -/
def touchesWindow (s : State) (h addr n : Nat) : Bool :=
  decide (0 < n) && s.mem.wins.toList.any fun w => winOverlaps w h addr (addr + n)

/-- Last data may use the range (R116). -/
def lastRange (s : State) (h addr n : Nat) : Bool := !touchesSystem s h addr n && !touchesWindow s h addr n

/-- A stack that a field may name: in service or to be, and no retirement waits (R479). -/
def stackNamed (s : State) (h : Nat) : Bool :=
  decide (h < 6) && stackUsable (stackOf s h) && !(stackOf s h).retireWaiting

/-- The first check that fails, by the word that it names. -/
def firstBad (l : List (Bool × Nat)) : Option Nat := (l.find? fun c => !c.1).map fun c => c.2

/-! ## MATRIX and VECTOR (R46, R47, R82, R83) -/

/-- CTRL's fields. -/
def ctrlFmtA (c : Word) : Nat := fld c 28 4
def ctrlFmtB (c : Word) : Nat := fld c 24 4
def ctrlOut (c : Word) : Nat := fld c 20 4
def ctrlRnd (c : Word) : Nat := fld c 18 2
def ctrlInit (c : Word) : Bool := bitOf c 17
def ctrlKind (c : Word) : Nat := fld c 14 2
def ctrlAnchor (c : Word) : Int := sext 10 (fld c 0 10)

/-- An operand pair is legal (R47). -/
def pairOk (a b : Nat) : Bool := if a = 1 ∨ b = 1 then a == b else decide (2 ≤ a ∧ a ≤ 8 ∧ 2 ≤ b ∧ b ≤ 8)

/-- A MATRIX descriptor but for its operand pair (R46, R82). -/
def badMatrix (d : List Word) : Option Nat :=
  firstBad [(decide (ctrlOut (wd d 1) ≤ 3) && ctrlKind (wd d 1) != 3, 1), (sramOk (wd d 2) 0, 2),
            (sramOk (wd d 3) 0, 3), (sramOk (wd d 4) 0, 4), (decide (1 ≤ fld (wd d 5) 16 16), 5)]

/-- The operations of two operands (R83). -/
def binaryOp (op : Nat) : Bool := decide (1 ≤ op ∧ op ≤ 5)

/-- A VECTOR descriptor (R83). -/
def badVector (d : List Word) : Option Nat :=
  let op := fld (wd d 1) 0 8
  firstBad [(decide (1 ≤ op ∧ op ≤ 12) && decide (fld (wd d 1) 20 4 ≤ 8), 1), (sramOk (wd d 2) 0, 2),
            (!binaryOp op || sramOk (wd d 3) 0, 3), (sramOk (wd d 4) 0, 4), (decide (1 ≤ fld (wd d 5) 0 16), 5)]

/-! ## HBM and SPILL (R84, R126) -/

/-- Which stacks a field may name and which ranges Last data may use: at a commit those of R116 and R479; at
run time every stack in service and every range, for what may have changed since. -/
structure Reach where
  stack : Nat → Bool
  range : Nat → Nat → Nat → Bool

/-- The reach at a commit (R116, R479). -/
def commitReach (s : State) : Reach := { stack := stackNamed s, range := lastRange s }

/-- The reach at run time (R479). -/
def runReach (s : State) : Reach := { stack := fun h => (stackOf s h).st == .inService, range := fun _ _ _ => true }

/-- An HBM descriptor in a slot of a stack; the range of an INDIRECT one is judged at run time (R84,
R116). -/
def badHbm (r : Reach) (unit : Nat) (d : List Word) : Option Nat :=
  let addr := addr48 (wd d 1) (fld (wd d 2) 0 16)
  let h := fld (wd d 2) 16 3
  let n := (wd d 3).toNat
  let ind := bitOf (wd d 5) 23
  firstBad [(addr % 64 == 0 && (ind || decide (6 ≤ h) || (hbmIn addr n && r.range h addr n)), 1),
            (h == unit && r.stack h, 2), (n % 64 == 0, 3), (sramOk (wd d 4) n, 4),
            (decide (fld (wd d 5) 8 8 < 64) && (decide (fld (wd d 5) 0 8 < 64) || fld (wd d 5) 0 8 == 0xFF), 5)]

/-- A SPILL descriptor. DEDUCED: a sled TARGET whose bits [5:3] are not 0 names no sled
(notes/assumptions/75). -/
def badSpill (r : Reach) (d : List Word) : Option Nat :=
  let addr := addr48 (wd d 1) (fld (wd d 2) 0 16)
  let h := fld (wd d 2) 16 3
  let n := (wd d 3).toNat
  let t := fld (wd d 5) 16 12
  firstBad [(decide (6 ≤ h) || (hbmIn addr n && r.range h addr n), 1), (r.stack h, 2),
            (n % 64 == 0 && decide (64 ≤ n), 3), ((wd d 4).toNat % 64 == 0, 4),
            (decide (t < 2048) || t / 8 % 8 == 0, 5)]

/-! ## LACE and COLLECTIVE (R165, R170) -/

/-- A side of a transfer that is SRAM or a stack. -/
def sideOk (sram : Bool) (lo : Word) (hi n : Nat) : Bool := if sram then sramOk lo n else hbmIn (addr48 lo hi) n

/-- The Eyelet of the first lane of the minimal path to a package (R165). -/
def firstEyelet (s : State) (t : Nat) : Option Nat := (minimalLanes s false t).head?.map fun n => n / 8

/-- A LACE descriptor in a slot of an Eyelet. -/
def badLace (r : Reach) (s : State) (unit : Nat) (d : List Word) : Option Nat :=
  let w2 := wd d 2
  let w5 := wd d 5
  let n := (wd d 3).toNat
  let ls := bitOf w2 30
  let rs := bitOf w2 29
  let t := fld w5 16 11
  firstBad [(sideOk ls (wd d 1) (fld w2 0 16) n, 1),
            (if ls then fld w2 0 16 == 0 else r.stack (fld w2 16 3), 2),
            (n % 64 == 0 && decide (64 ≤ n), 3), (sideOk rs (wd d 4) (fld w5 0 16) n, 4),
            ((if rs then fld w5 0 16 == 0 else decide (fld w5 27 3 < 6)) &&
              t != ownId s && firstEyelet s t == some unit, 5)]

/-- Output bytes per member of a collective (R167). -/
def collOut (op size n : Nat) : Nat := if op = 1 then n / size else if op = 2 then size * n else n

/-- The rank of an identity in a collective. -/
def collRank (base stride id : Nat) : Nat := (id - base) / stride

/-- A COLLECTIVE descriptor. -/
def badColl (r : Reach) (s : State) (d : List Word) : Option Nat :=
  let w1 := wd d 1
  let op := fld w1 28 4
  let et := fld w1 24 4
  let red := fld w1 22 2
  let ss := bitOf w1 21
  let ds := bitOf w1 20
  let base := fld w1 0 11
  let size := fld (wd d 2) 20 12
  let stride := fld (wd d 2) 0 11
  let n := (wd d 3).toNat
  let id := ownId s
  firstBad [(decide (op ≤ 3) && decide (et ≤ 3) && decide (red ≤ 2) && !(et == 0 && red != 0) &&
              !(et == 3 && decide (op ≤ 1)) && (ss || r.stack (fld w1 17 3)) &&
              (ds || r.stack (fld w1 14 3)), 1),
            (decide (2 ≤ size) && decide (size ≤ 2048) && decide (1 ≤ stride) &&
              decide (base + (size - 1) * stride ≤ 2047) && decide (base ≤ id) && (id - base) % stride == 0 &&
              decide (collRank base stride id < size), 2),
            (n % (if op = 2 then 64 else 64 * size) == 0, 3),
            (sideOk ss (wd d 4) (fld (wd d 6) 0 16) n, 4),
            (sideOk ds (wd d 5) (fld (wd d 6) 16 16) (collOut op size n), 5)]

/-! ## Any descriptor (R81) -/

/-- KIND, WORDS and NEXT of an envelope. -/
def envKind (w : Word) : Nat := fld w 28 4
def envWords (w : Word) : Nat := fld w 16 8
def envNext (w : Word) : Nat := fld w 0 16

/-- The length of a descriptor of a kind, 0 for a reserved kind. -/
def kindWords (k : Nat) : Nat :=
  match k with
  | 1 | 2 | 4 => 7
  | 3 | 6 => 6
  | 5 => 8
  | _ => 0

/-- The slot kind that chains descriptors of a kind. -/
def kindSlot (k : Nat) : Nat :=
  match k with
  | 1 | 2 => 0
  | 3 => 1
  | 4 => 2
  | 5 => 3
  | _ => 4

/-- A descriptor's envelope is of the kind and length that its row names (R81). -/
def envOk (k : Nat) (d : List Word) : Bool :=
  envKind (wd d 0) == k && envWords (wd d 0) == kindWords k && d.length == kindWords k

/-- The word of a descriptor of a slot that fails, by the descriptor's kind. -/
def badDesc (r : Reach) (s : State) (unit : Nat) (d : List Word) : Option Nat :=
  match envKind (wd d 0) with
  | 1 => badMatrix d
  | 2 => badVector d
  | 3 => badHbm r unit d
  | 4 => badLace r s unit d
  | 5 => badColl r s d
  | _ => badSpill r d

/-! ## When descriptors run -/

/-- A frame of the running Last is under way: its descriptors run (R93, R94, R99). -/
def frameRuns (s : State) : Bool := s.last.st == .running && !s.last.inSwitch && computeOn s

/-- The slots of the present frame, with their numbers (R79). -/
def slotsNow (s : State) : List (Nat × SlotE) :=
  let l := imgSlots s.last.active
  ((List.range l.length).zip l).filter fun x => decide (x.2.first ≤ s.last.f ∧ s.last.f ≤ x.2.last)

/-- Where a slot's chain stands for a core of it: the offset of the next descriptor, 0x10000 after the last. -/
def chainPos (l : LastBlk) (i : Nat) (e : SlotE) (c : Nat) : Nat := (sget l.chains (64 * i + c)).getD e.desc

/-- The first slot of a resource whose chain has not completed (R80, R81). -/
def dueSlot (s : State) (here : SlotE → Bool) (c : Nat) : Option (Nat × SlotE) :=
  ((slotsNow s).filter fun x => here x.2 && decide (chainPos s.last x.1 x.2 c < 0x10000)).foldl
    (fun a x => match a with
                | none => some x
                | some y => if x.2.start < y.2.start then some x else some y) none

/-- A descriptor is the next of its resource's chains: the key of the slot for the core. -/
def due (s : State) (here : SlotE → Bool) (c : Nat) (d : List Word) : Option Nat :=
  (dueSlot s here c).bind fun x =>
    if imgWords s.last.active (descOff s.last.active + chainPos s.last x.1 x.2 c) d.length = d then some (64 * x.1 + c)
    else none

/-- The offset of the descriptor that is next on a resource (R81). -/
def chainOff (s : State) (here : SlotE → Bool) (c : Nat) : Nat :=
  ((dueSlot s here c).map fun x => chainPos s.last x.1 x.2 c).getD 0

/-- The chain goes on past a descriptor. -/
def chainNext (key : Nat) (d : List Word) (l : LastBlk) : LastBlk :=
  { l with chains := sput l.chains key (if envNext (wd d 0) = 0xFFFF then 0x10000 else envNext (wd d 0)) }

/-- A descriptor runs where it is the next of its resource's chains; a slot runs its chain in order (R81). -/
def runDue (here : SlotE → Bool) (c : Nat) (d : List Word) (f : State → State) (s : State) : State :=
  match due s here c d with
  | some key => (f s).onLast (chainNext key d)
  | none => s

/-- The slots of a logical core, of a stack, of an Eyelet, and of the collective and the spill engine (R80). -/
def coreHere (cl core : Nat) (e : SlotE) : Bool := e.kind == 0 && e.cluster == cl && (e.unit == 0xFF || e.unit == core)
def hbmHere (h : Nat) (e : SlotE) : Bool := e.kind == 1 && e.unit == h
def laceHere (eyelet : Nat) (e : SlotE) : Bool := e.kind == 2 && e.unit == eyelet
def collHere (e : SlotE) : Bool := e.kind == 3
def spillHere (e : SlotE) : Bool := e.kind == 4

/-- The cores for which a slot's chain runs. -/
def slotCores (e : SlotE) : List Nat := if e.kind ≠ 0 then [0] else if e.unit = 0xFF then List.range 64 else [e.unit]

/-- Every chain of the present frame has run to its end (R97). -/
def chainsDone (s : State) : Bool :=
  (slotsNow s).all fun x =>
    (slotCores x.2).all fun c => decide (0x10000 ≤ chainPos s.last x.1 x.2 (if x.2.kind = 0 then c else 0))

end Sys2Proof.Machine
end

