-- ==== Sys2Proof/Machine/Formats.lean ====
section
/-! DEFINITION. Element formats, exact values, rounding, the write-back rules, F48, the block encoder and
the stochastic draw (R40 to R45, R55, R58 to R63). -/

namespace Sys2Proof.Machine

/-! ## Values -/

/-- A value of a floating-point format: (−1)^neg × m × 2^e. -/
inductive FVal where
  | nan
  | inf (neg : Bool)
  | fin (neg : Bool) (m : Nat) (e : Int)
deriving DecidableEq, Repr

def FVal.isNan : FVal → Bool
  | .nan => true
  | _ => false

def FVal.isInf : FVal → Bool
  | .inf _ => true
  | _ => false

/-- The sign, of an infinity or a finite value. -/
def FVal.neg : FVal → Bool
  | .nan => false
  | .inf n => n
  | .fin n _ _ => n

/-- A finite zero. -/
def FVal.isZero : FVal → Bool
  | .fin _ m _ => m == 0
  | _ => false

/-- A signed integer from a sign and a magnitude. -/
def signed (neg : Bool) (m : Nat) : Int := if neg then -(m : Int) else (m : Int)

/-- floor(log2) of m × 2^e for m > 0. -/
def flog (m : Nat) (e : Int) : Int := e + (Nat.log2 m : Nat)

/-- How a format marks its specials (R40). -/
inductive Specials where
  | none | ieee | e4m3
deriving DecidableEq, Repr

/-- The value of a code with eb exponent bits, mb mantissa bits and a bias (R40, R41). -/
def decFp (eb mb bias : Nat) (sp : Specials) (c : Nat) : FVal :=
  let n := c.testBit (eb + mb)
  let x := (c >>> mb) % 2 ^ eb
  let m := c % 2 ^ mb
  if sp = .ieee ∧ x = 2 ^ eb - 1 then (if m = 0 then .inf n else .nan)
  else if sp = .e4m3 ∧ x = 15 ∧ m = 7 then .nan
  else if x = 0 then .fin n m (1 - (bias : Int) - mb)
  else .fin n (2 ^ mb + m) ((x : Int) - bias - mb)

/-- The value of an FP32 word. -/
def decF32 (w : Word) : FVal := decFp 8 23 127 .ieee w.toNat

/-- The value of an element code by format code (R40, R46): 0x4 and 0x8 are E2M1, 0x5 E2M3, 0x6 E3M2,
0x7 INT8. -/
def decElem (fmt c : Nat) : FVal :=
  match fmt with
  | 0 => decFp 8 23 127 .ieee c
  | 1 => decFp 8 7 127 .ieee c
  | 2 => decFp 4 3 7 .e4m3 c
  | 3 => decFp 5 2 15 .ieee c
  | 5 => decFp 2 3 1 .none c
  | 6 => decFp 3 2 3 .none c
  | 7 => let x := sext 8 c; .fin (decide (x < 0)) x.natAbs (-6)
  | _ => decFp 2 1 1 .none c

/-- Bits of an element. -/
def elemBits (fmt : Nat) : Nat :=
  match fmt with
  | 0 => 32
  | 1 => 16
  | 2 | 3 | 7 => 8
  | 5 | 6 => 6
  | _ => 4

/-- The exponent of a format's smallest subnormal (R49). -/
def elemL (fmt : Nat) : Int :=
  match fmt with
  | 1 => -133
  | 2 => -9
  | 3 => -16
  | 5 => -3
  | 6 => -4
  | 7 => -6
  | _ => -1

/-- The format has a block scale in a scale array (R42), or in the block (R43). -/
def isMx (fmt : Nat) : Bool := decide (4 ≤ fmt ∧ fmt ≤ 7)
def isW4s (fmt : Nat) : Bool := fmt == 8

/-- The formats of 4 bits (R47). -/
def is4bit (fmt : Nat) : Bool := fmt == 4 || fmt == 8

/-- Bytes of 32 elements of a format as stored (R42, R43). -/
def blockBytes (fmt : Nat) : Nat := if isW4s fmt then 18 else 4 * elemBits fmt

/-- Element i of packed little-endian elements (R42, R43). -/
def packedElem (fmt : Nat) (l : List Byte) (i : Nat) : Nat :=
  (leNat (l.take (4 * elemBits fmt)) >>> (i * elemBits fmt)) % 2 ^ elemBits fmt

/-- 32 element codes packed little-endian. -/
def packElems (fmt : Nat) (l : List Nat) : List Byte :=
  leBytes (4 * elemBits fmt) (l.foldr (fun c a => c + a * 2 ^ elemBits fmt) 0)

/-! ## Rounding (R60, R62) -/

/-- m × 2^e in units of 2^u, rounded: modes 0 RNE, 1 RZ, 2 SAT as RNE, 3 SR with a draw r. -/
def roundGrid (mode r : Nat) (m : Nat) (e u : Int) : Nat :=
  if u ≤ e then m * 2 ^ (e - u).toNat
  else
    let k := (u - e).toNat
    let q := m / 2 ^ k
    let rem := m % 2 ^ k
    let up := match mode with
      | 1 => false
      | 3 => decide (2 ^ 16 ≤ rem * 2 ^ 16 / 2 ^ k + r)
      | _ => decide (2 ^ k < 2 * rem ∨ (2 * rem = 2 ^ k ∧ q % 2 = 1))
    if up then q + 1 else q

/-- The magnitude code of m × 2^e, m > 0, in a format of mb mantissa bits and least exponent emin, the
grid going on without bound above (R60). -/
def roundMag (mb : Nat) (emin : Int) (mode r m : Nat) (e : Int) : Nat :=
  let x := max (flog m e) emin
  (x - emin).toNat * 2 ^ mb + roundGrid mode r m e (x - mb)

/-- A write-back format: mantissa bits, least exponent, largest finite code, canonical NaN, infinity, sign
bit (R40, R59, R61). -/
structure WbFmt where
  mb : Nat
  emin : Int
  top : Nat
  nan : Nat
  inf : Option Nat
  sign : Nat
deriving DecidableEq, Repr

/-- The write-back formats by code (R46). -/
def wbFmt (fmt : Nat) : WbFmt :=
  match fmt with
  | 0 => ⟨23, -126, 0x7F7FFFFF, 0x7FC00000, some 0x7F800000, 31⟩
  | 1 => ⟨7, -126, 0x7F7F, 0x7FC0, some 0x7F80, 15⟩
  | 2 => ⟨3, -6, 0x7E, 0x7F, none, 7⟩
  | _ => ⟨2, -14, 0x7B, 0x7F, some 0x7C, 7⟩

/-- Bytes of an output element. -/
def outBytes (fmt : Nat) : Nat := if fmt = 0 then 4 else if fmt = 1 then 2 else 1

/-- A code with a sign. -/
def withSign (f : WbFmt) (neg : Bool) (c : Nat) : Nat := if neg then c + 2 ^ f.sign else c

/-- Flags of CORE_ARITH (R70). -/
def flagUnf : Word := 2#32
def flagSat : Word := 4#32
def flagInf : Word := 8#32
def flagNan : Word := 16#32
def flagLoss : Word := 32#32
def flagOvf : Word := 64#32
def flagVecOvf : Word := 128#32
def flagVecNan : Word := 256#32

/-- NaN, the largest finite value and Inf as written, with their flags (R58 to R60). -/
def wbNan (f : WbFmt) : Nat × Word := (f.nan, flagNan)
def wbTop (f : WbFmt) (neg : Bool) : Nat × Word := (withSign f neg f.top, flagSat)
def wbInfOr (f : WbFmt) (neg : Bool) : Nat × Word :=
  match f.inf with
  | some i => (withSign f neg i, flagInf)
  | none => wbNan f

/-- A finite overflow and an infinity by rounding mode (R58). -/
def wbOver (f : WbFmt) (mode : Nat) (neg : Bool) : Nat × Word := if mode = 0 then wbInfOr f neg else wbTop f neg
def wbInf (f : WbFmt) (mode : Nat) (neg : Bool) : Nat × Word := if mode = 2 then wbTop f neg else wbInfOr f neg

/-- A nonzero finite value written (R60). -/
def wbFin (f : WbFmt) (mode r : Nat) (neg : Bool) (m : Nat) (e : Int) : Nat × Word :=
  let c := roundMag f.mb f.emin mode r m e
  if f.top < c then wbOver f mode neg
  else if c = 0 then (withSign f neg 0, flagUnf)
  else (withSign f neg c, 0)

/-- A value converted to a write-back format (R58 to R63, R64). FREE VALUE: whether −0 keeps its sign
(notes/assumptions/66). -/
def wbVal (fmt mode r : Nat) (v : FVal) : Nat × Word :=
  let f := wbFmt fmt
  match v with
  | .nan => wbNan f
  | .inf n => wbInf f mode n
  | .fin n m e =>
    if m = 0 then (withSign f (n && Config.cvtNegZero) 0, 0) else wbFin f mode r n m e

/-! ## The stochastic draw (R63) -/

/-- The draw r of an output element. -/
def draw (seed : Nat) (pass : BitVec 32) (f t e : Nat) : Nat :=
  let z0 : BitVec 64 := BitVec.ofNat 64 seed + 0x9E3779B97F4A7C15#64 * BitVec.ofNat 64 (pass.toNat * 65536 ||| f)
  let z1 := z0 ^^^ BitVec.ofNat 64 (t * 2 ^ 32 ||| e)
  let z2 := (z1 ^^^ (z1 >>> 30)) * 0xBF58476D1CE4E5B9#64
  let z3 := (z2 ^^^ (z2 >>> 27)) * 0x94D049BB133111EB#64
  let z4 := z3 ^^^ (z3 >>> 31)
  (z4 >>> 48).toNat

/-! ## F48 (R55, R56) -/

/-- The signed significand and exponent of an F48 code. -/
def decF48 (x : BitVec 59) : Int × Int :=
  let c := x.toNat
  let ex : Nat := c / 2 ^ 47 % 2 ^ 11
  let fr : Nat := c % 2 ^ 47
  if ex = 0 ∧ fr = 0 then (0, 0)
  else (signed (c.testBit 58) (2 ^ 47 + fr), (ex : Int) - 1070)

/-- The exact sum of dyadic numbers. -/
def exactSum (l : List (Int × Int)) : Int × Int :=
  let e := (l.map fun x => x.2).foldl min 0
  (l.foldl (fun a x => a + x.1 * pow2 (x.2 - e).toNat) 0, e)

/-- A dyadic number rounded once to F48 with RNE; a zero is +0 (R56). FREE VALUE beyond F48's exponents
(notes/assumptions/70). -/
def toF48 (x : Int × Int) : BitVec 59 :=
  let m := x.1.natAbs
  if m = 0 then 0
  else
    let lg := flog m x.2
    let q := roundGrid 0 0 m x.2 (lg - 47)
    let ex := (if q = 2 ^ 48 then lg + 1 else lg) + 1023
    let fr := if q = 2 ^ 48 then 0 else q - 2 ^ 47
    if 1 ≤ ex ∧ ex ≤ 2047 then
      BitVec.ofNat 59 (bn (decide (x.1 < 0)) * 2 ^ 58 + ex.toNat * 2 ^ 47 + fr)
    else Config.f48Range x.1 x.2

/-- The two-term sum of R56. -/
def addF48 (a b : BitVec 59) : BitVec 59 := toF48 (exactSum [decF48 a, decF48 b])

/-- An FP32 or bfloat16 value as F48: exact (R169). -/
def f48OfVal (v : FVal) : BitVec 59 :=
  match v with
  | .fin n m e => toF48 (signed n m, e)
  | _ => 0

/-! ## The block encoder (R45) -/

/-- emax of a block format (R45 step 3). -/
def blockEmax (fmt : Nat) : Int := if fmt = 6 then 4 else if fmt = 7 then 0 else 2

/-- An element's magnitude rounded and saturated, and whether it saturated: the largest magnitudes are 7
of E2M1, 0x1F of E2M3 and E3M2 and 127 of INT8. DESIGN CHOICE: a magnitude lies beyond the largest finite value
when its rounded value does (R45 step 5, notes/assumptions/153). -/
def encMag (fmt mode r m : Nat) (e : Int) : Nat × Bool :=
  let q := match fmt with
    | 5 => roundMag 3 0 mode r m e
    | 6 => roundMag 2 (-2) mode r m e
    | 7 => roundGrid mode r m e (-6)
    | _ => roundMag 1 0 mode r m e
  let top := if fmt = 7 then 127 else if fmt = 5 ∨ fmt = 6 then 31 else 7
  (min q top, decide (top < q))

/-- An element code from sign and magnitude; a zero is +0 (R45 step 6). -/
def encCode (fmt : Nat) (neg : Bool) (q : Nat) : Nat :=
  if q = 0 ∨ neg = false then q
  else if fmt = 7 then 256 - q
  else q + 2 ^ (elemBits fmt - 1)

/-- One element: v × 2^(127 − X + S) rounded to the element format (R45 step 5). -/
def encElem (fmt mode r : Nat) (sh : Int) (v : FVal) : Nat × Bool :=
  match v with
  | .fin n m e =>
    if m = 0 then (0, false)
    else
      let x := encMag fmt mode r m (e + sh)
      (encCode fmt n x.1, x.2)
  | _ => (0, false)

/-- floor(log2) of the largest magnitude; none when every value is zero. -/
def maxLog (l : List FVal) : Option Int :=
  l.foldl (fun a v =>
    match v with
    | .fin _ m e => if m = 0 then a else some (match a with
                                              | none => flog m e
                                              | some x => max x (flog m e))
    | _ => a) none

/-- The sub-scale of a half (R45 step 4). -/
def subScale (top : Int) (half : List FVal) : Nat :=
  match maxLog half with
  | none => 0
  | some x => (min 3 (top - x)).toNat

/-- A block's element codes, X, S0, S1, and whether an element saturated (R45). -/
def encBlock (fmt mode : Nat) (draws : List Nat) (l : List FVal) : List Nat × Nat × Nat × Nat × Bool :=
  if l.any fun v => v.isNan || v.isInf then (List.replicate 32 0, 0xFF, 0, 0, false)
  else
    match maxLog l with
    | none => (List.replicate 32 0, 0x7F, 0, 0, false)
    | some top =>
      let x := clampI 0 254 (top - blockEmax fmt + 127)
      let s0 := if isW4s fmt then subScale top (l.take 16) else 0
      let s1 := if isW4s fmt then subScale top (l.drop 16) else 0
      let cs := (List.range 32).map fun i =>
        encElem fmt mode (draws.getD i 0) (127 - x + (if i < 16 then s0 else s1)) (l.getD i (.fin false 0 0))
      (cs.map fun c => c.1, x.toNat, s0, s1, cs.any fun c => c.2)

/-- The bytes of a W4S block (R43). -/
def w4sBytes (cs : List Nat) (x s0 s1 : Nat) : List Byte :=
  packElems 8 cs ++ [BitVec.ofNat 8 x, BitVec.ofNat 8 (4 * s1 + s0)]

end Sys2Proof.Machine
end

