-- ==== Sys2Proof/Machine/Cores.lean ====
section
/-! DEFINITION. What a core does: matrix operations with exact and F48 accumulation, write-back, the vector
unit and its block encoder, accumulator parity, and the core registers (R32, R39, R46 to R73, R113). -/

namespace Sys2Proof.Machine

/-! ## SRAM of a core (R111, R113) -/

/-- n bytes of core k's SRAM from an address; there is none beyond the 384 KiB. -/
def sramRead (s : State) (k a n : Nat) : List Byte :=
  (List.range n).map fun i => if a + i < 0x60000 then s.core.sram.get (sramAt k (a + i)) else 0

/-- The 64-bit words of core k in [a, a + n) that are poisoned, by index. -/
def sramBad (s : State) (k a n : Nat) : List Nat :=
  s.core.sramPoison.filter fun w => decide (sramAt k a < 8 * w + 8 ∧ 8 * w < sramAt k (min 0x60000 (a + n)))

/-- Bytes stored in core k's SRAM from an address: they remove the poison of the words that they cover
whole (R113). DEDUCED: a word written in part stays poisoned (notes/assumptions/76). -/
def sramWrite (k a : Nat) (l : List Byte) (s : State) : State :=
  let b := l.take (0x60000 - a)
  s.onCore fun c =>
    { c with sram := c.sram.write (sramAt k a) b
             sramPoison := c.sramPoison.filter fun w =>
               !decide (sramAt k a ≤ 8 * w ∧ 8 * w + 8 ≤ sramAt k a + b.length) }

/-- Poison consumed, once for each poisoned unit used (R113). DEDUCED (notes/assumptions/77). -/
def poisonUsed (n : Nat) (s : State) : State :=
  if n = 0 then s
  else (List.range n).foldl (fun s _ => raise Ev.memPoisonUsed [] s)
    (s.onMem fun m => { m with event := setBit m.event 4 })

/-! ## Registers (R68 to R72) -/

/-- Flags of CORE_ARITH set. -/
def setArith (k : Nat) (w : Word) (s : State) : State :=
  if w = 0 then s else onCoreRegs k (fun g => { g with arith := g.arith ||| w }) s

/-- Terms truncated, in CORE_LOSS_CNT and CORE_ARITH (R49 step 4). -/
def addLoss (k n : Nat) (s : State) : State :=
  if n = 0 then s
  else onCoreRegs k (fun g => { g with arith := g.arith ||| flagLoss, lossCnt := satAdd 0xFFFFFFFF g.lossCnt n }) s

/-- A read of the core and cluster registers at an offset from 0x0018_0000 (R68). -/
def regCore (s : State) (off : Nat) : Word :=
  let cl := off / 0x800
  let o := off % 0x800
  let c := o / 0x10
  if o = 0x7F0 then regClusterSpare s cl
  else if 65 ≤ c then 0
  else if o % 0x10 = 0 then regCoreStat s cl c
  else if o % 0x10 = 4 then (coreRegs s (coreKey cl c)).arith
  else if o % 0x10 = 8 then w32 (coreRegs s (coreKey cl c)).lossCnt
  else 0

/-- A write to them. -/
def coreWrite (off : Nat) (be : BitVec 4) (w : Word) (s : State) : State :=
  let cl := off / 0x800
  let o := off % 0x800
  let c := o / 0x10
  if 65 ≤ c then s
  else if o % 0x10 = 4 then onCoreRegs (coreKey cl c) (fun g => { g with arith := wW1C 0x1FF#32 g.arith w be }) s
  else if o % 0x10 = 8 then
    onCoreRegs (coreKey cl c) (fun g => { g with lossCnt := (wRW 0xFFFFFFFF#32 (w32 g.lossCnt) w be).toNat }) s
  else s

/-! ## Accumulators (R49 to R56) -/

/-- Accumulator i of core key k; SUM 0 without flags where unlisted (R73). -/
def accOf (s : State) (k i : Nat) : Acc := (sget s.core.accs (1024 * k + i)).getD {}

/-- The 1,024 accumulators of core key k. -/
def accsOf (s : State) (k : Nat) : List Acc := (List.range 1024).map (accOf s k)

/-- The accumulators of core key k replaced. -/
def setAccs (k : Nat) (l : List Acc) (s : State) : State :=
  s.onCore fun c =>
    { c with accs := ((List.range 1024).zip l).foldl (fun m x => if x.2 = {} then m else sput m (1024 * k + x.1) x.2)
                       (c.accs.filter fun x => x.1 / 1024 != k) }

/-- An operand element: its value, and the exponent of its scale (R49 step 2). -/
abbrev Operand := FVal × Int

/-- The flags of an accumulator for an operand event (R51), none when both operands are finite. -/
def operandEvent (a b : FVal) (x : Acc) : Option Acc :=
  if a.isNan || b.isNan then some { x with nan := true }
  else if a.isInf || b.isInf then
    if a.isZero || b.isZero then some { x with nan := true }
    else if a.neg != b.neg then some { x with ninf := true } else some { x with pinf := true }
  else none

/-- An operand's value in units of 2^L, signed. -/
def inUnits (l : Int) (v : FVal) : Int :=
  match v with
  | .fin n m e => signed n m * pow2 (e - l).toNat
  | _ => 0

/-- The term of an exact product in units of 2^L at a shift of L + Sa + Sb − ANCHOR, and whether the floor
discarded nonzero bits (R49 steps 3, 4). -/
def exactTerm (p sh : Int) : Int × Bool :=
  if 0 ≤ sh then (p * pow2 sh.toNat, false)
  else (fdiv p (pow2 (-sh).toNat), p % pow2 (-sh).toNat != 0)

/-- What a tile step has gathered: the accumulator, truncated terms, and whether one lay outside the
window. -/
structure Mac where
  acc : Acc
  lost : Nat := 0
  ovfl : Bool := false
deriving DecidableEq, Repr

/-- One exact product (R49, R51). -/
def macExact (fa fb : Nat) (anchor : Int) (st : Mac) (ab : Operand × Operand) : Mac :=
  match operandEvent ab.1.1 ab.2.1 st.acc with
  | some x => { st with acc := x }
  | none =>
    let p := inUnits (elemL fa) ab.1.1 * inUnits (elemL fb) ab.2.1
    let t := exactTerm p (elemL fa + elemL fb + ab.1.2 + ab.2.2 - anchor)
    let st1 := if t.2 then { st with lost := st.lost + 1, acc := { st.acc with loss := true } } else st
    if 2 ^ 95 ≤ t.1.natAbs then
      { st1 with ovfl := true
                 acc := if p < 0 then { st1.acc with ovfNeg := true } else { st1.acc with ovfPos := true } }
    else { st1 with acc := { st1.acc with sum := st1.acc.sum + BitVec.ofInt 120 t.1 } }

/-- The exact bfloat16 product as a dyadic number. -/
def bfProduct (a b : FVal) : Int × Int :=
  match a, b with
  | .fin n m e, .fin n' m' e' => (signed (n != n') (m * m'), e + e')
  | _, _ => (0, 0)

/-- A tile step's products of one output, bfloat16: summed exactly with the accumulator and rounded once
(R56). -/
def macF48 (st : Mac) (l : List (Operand × Operand)) : Mac :=
  let x := l.foldl (fun x ab => (operandEvent ab.1.1 ab.2.1 x).getD x) st.acc
  let ps := (l.filter fun ab => (operandEvent ab.1.1 ab.2.1 st.acc).isNone).map fun ab => bfProduct ab.1.1 ab.2.1
  { st with acc := { x with f48 := toF48 (exactSum (decF48 st.acc.f48 :: ps)) } }

/-- The products of one output in a tile step. -/
def macStep (c : Word) (st : Mac) (l : List (Operand × Operand)) : Mac :=
  if ctrlFmtA c = 1 then macF48 st l
  else l.foldl (macExact (ctrlFmtA c) (ctrlFmtB c) (ctrlAnchor c)) st

/-! ## Long partials (R53) -/

/-- The long partial that an accumulator emits. -/
def longPartial (f48 : Bool) (x : Acc) : List Byte :=
  let flags := bn x.nan * 2 ^ 125 + bn x.ninf * 2 ^ 124 + bn x.pinf * 2 ^ 123
  if f48 then leBytes 16 (2 ^ 126 + flags + x.f48.toNat)
  else leBytes 16 (flags + bn x.ovfNeg * 2 ^ 122 + bn x.ovfPos * 2 ^ 121 + bn x.loss * 2 ^ 120 + x.sum.toNat)

/-- An accumulator that starts from a long partial. -/
def accOfPartial (f48 : Bool) (l : List Byte) : Acc :=
  let v := leNat (l.take 16)
  { sum := if f48 then 0 else BitVec.ofNat 120 v, f48 := if f48 then BitVec.ofNat 59 v else 0,
    nan := v.testBit 125, ninf := v.testBit 124, pinf := v.testBit 123,
    ovfNeg := v.testBit 122 && !f48, ovfPos := v.testBit 121 && !f48, loss := v.testBit 120 && !f48 }

/-! ## Write-back (R58) -/

/-- The value of an accumulator converted to the output format, with its flags (R58). -/
def accOut (c : Word) (r : Nat) (x : Acc) : Nat × Word :=
  let f := wbFmt (ctrlOut c)
  let mode := ctrlRnd c
  if x.nan || (x.pinf && x.ninf) then wbNan f
  else if x.pinf || x.ninf then wbInf f mode x.ninf
  else if x.ovfPos && x.ovfNeg then wbNan f
  else if x.ovfPos || x.ovfNeg then wbOver f mode x.ovfNeg
  else
    let v : Int × Int := if ctrlFmtA c = 1 then decF48 x.f48 else (x.sum.toInt, ctrlAnchor c)
    if v.1 = 0 then (0, 0) else wbFin f mode r (decide (v.1 < 0)) v.1.natAbs v.2

/-! ## Operands of a tile step (R42 to R44, R48) -/

/-- Where row r of tile step t of an operand begins. FREE VALUE for an operation of several tile steps
(notes/assumptions/68); of one, the rows follow each other, as in the example of chapter 3. -/
def rowAddr (fmt base steps t r : Nat) : Nat :=
  if steps = 1 then base + r * blockBytes fmt else base + Config.operandOff fmt steps t r

/-- Where the scale of row r of a tile step lies, and its bytes (R42, R43). FREE VALUE: of an MX operand
(notes/assumptions/69). -/
def scaleAt (d : List Word) (side fmt a t r : Nat) : Nat × Nat :=
  if isW4s fmt then (a + 16, 2) else if isMx fmt then (Config.scaleBase d side + (32 * t + r), 1) else (0, 0)

/-- The 32 operand elements of row r of a tile step: an element in a poisoned word counts as NaN (R113), as
do all of a block whose scale is 0xFF. DESIGN CHOICE: a poisoned scale makes every element of its block NaN
(notes/assumptions/163). -/
def rowElems (s : State) (k : Nat) (d : List Word) (side fmt base steps t r : Nat) : List Operand :=
  let a := rowAddr fmt base steps t r
  let n := blockBytes fmt
  let bytes := sramRead s k a n
  let bad := sramBad s k a n
  let sa := scaleAt d side fmt a t r
  let x := (sramRead s k sa.1 1).getD 0 0
  let ss := if isW4s fmt then (bytes.getD 17 0).toNat else 0
  let scaled := isMx fmt || isW4s fmt
  let dead := scaled && (x == 0xFF#8 || !(sramBad s k sa.1 sa.2).isEmpty)
  (List.range 32).map fun i =>
    let lo := sramAt k (a + i * elemBits fmt / 8) / 8
    let hi := sramAt k (a + (i * elemBits fmt + elemBits fmt - 1) / 8) / 8
    if dead || bad.contains lo || bad.contains hi then (.nan, 0)
    else
      (decElem fmt (packedElem fmt bytes i),
       if scaled then (x.toNat : Int) - 127 - (if isW4s fmt then (if i < 16 then ss % 4 else ss / 4 % 4 : Nat) else 0 : Nat)
       else 0)

/-- The poisoned words that an operand of a tile step uses, its scales among them. -/
def rowsBad (s : State) (k : Nat) (d : List Word) (side fmt base steps t : Nat) : Nat :=
  ((List.range 32).flatMap fun r =>
    let a := rowAddr fmt base steps t r
    let sa := scaleAt d side fmt a t r
    sramBad s k a (blockBytes fmt) ++ sramBad s k sa.1 sa.2).eraseDups.length

/-- The accumulators that an operation with INIT or a long partial starts from (R46, R53). A poisoned word
of a partial counts as a NaN (R113). DEDUCED: a partial takes the place of the accumulator's contents, and what
it combines with is the operation's sum (notes/assumptions/154). A parity error since the last operation stays
in its lane (R39, notes/assumptions/151). -/
def startAccs (s : State) (k : Nat) (c : Word) (start : Option Nat) : List Acc :=
  let l := if ctrlInit c then List.replicate 1024 {}
           else
             match start with
             | none => accsOf s k
             | some a =>
               (List.range 1024).map fun i =>
                 let x := accOfPartial (ctrlFmtA c == 1) (sramRead s k (a + 16 * i) 16)
                 if (sramBad s k (a + 16 * i) 16).isEmpty then x else { x with nan := true }
  let hit := (coreRegs s k).parity
  if hit.isEmpty then l else l.mapIdx fun i x => if hit.contains i then { x with nan := true } else x

/-- The poisoned words of the long partials that an operation starts from (R113). -/
def startBad (s : State) (k : Nat) (c : Word) (start : Option Nat) : Nat :=
  if ctrlInit c then 0
  else
    match start with
    | none => 0
    | some a => (sramBad s k a 16384).length

/-- One tile step over all outputs: row i of A with row j of B. -/
def tileStep (s : State) (k : Nat) (d : List Word) (t : Nat) (accs : List Acc) : List Mac :=
  let c := wd d 1
  let steps := fld (wd d 5) 16 16
  let ra := (List.range 32).map (rowElems s k d 0 (ctrlFmtA c) (fld (wd d 2) 0 19) steps t)
  let rb := (List.range 32).map (rowElems s k d 1 (ctrlFmtB c) (fld (wd d 3) 0 19) steps t)
  accs.mapIdx fun n x => macStep c { acc := x } ((ra.getD (n / 32) []).zip (rb.getD (n % 32) []))

/-- The draw of output element e of the frame (R63). -/
def frameDraw (s : State) (t e : Nat) : Nat :=
  draw (imgSeed s.last.active) s.last.pass s.last.f t (e % 2 ^ 32)

/-- The 1,024 outputs written from tile number t on, row by row (R58, R82). -/
def tileOut (k : Nat) (d : List Word) (t : Nat) (accs : List Acc) (s : State) : State :=
  let c := wd d 1
  let dst := fld (wd d 4) 0 19
  if ctrlKind c = 2 then
    sramWrite k (dst + 16384 * t) (accs.flatMap (longPartial (ctrlFmtA c == 1))) s
  else if ctrlKind c = 1 then
    let outs := accs.mapIdx fun i x =>
      accOut c (frameDraw s (fld (wd d 5) 0 16) ((wd d 6).toNat + 1024 * t + i)) x
    let n := outBytes (ctrlOut c)
    setArith k (outs.foldl (fun w o => w ||| o.2) 0)
      (sramWrite k (dst + 1024 * n * t) (outs.flatMap fun o => leBytes n o.1) s)
  else s

/-- A tile step with what it records (R49, R113). -/
def runStep (k : Nat) (d : List Word) (t : Nat) (s : State) : State :=
  let c := wd d 1
  let steps := fld (wd d 5) 16 16
  let ms := tileStep s k d t (accsOf s k)
  let bad := rowsBad s k d 0 (ctrlFmtA c) (fld (wd d 2) 0 19) steps t +
    rowsBad s k d 1 (ctrlFmtB c) (fld (wd d 3) 0 19) steps t
  let s1 := setAccs k (ms.map fun m => m.acc) (poisonUsed bad s)
  addLoss k ((ms.map fun m => m.lost).foldl (· + ·) 0) (setArith k (if ms.any fun m => m.ovfl then flagOvf else 0) s1)

/-- A tile of a matrix operation begins: tile number t of the operation. -/
def tileStart (k : Nat) (c : Word) (start : Option Nat) (t : Nat) (s : State) : State :=
  let a := start.map fun a => a + 16384 * t
  setAccs k (startAccs s k c a) (poisonUsed (startBad s k c a) s)

/-- A matrix operation on physical core k. DEDUCED: where outputs are written each tile step is a tile of its own,
whose outputs follow those of the step before (R82 word 6); kept in the accumulators, the steps add up
(notes/assumptions/67). -/
def runMatrix (k : Nat) (d : List Word) (start : Option Nat) (s : State) : State :=
  let c := wd d 1
  let t := (List.range (fld (wd d 5) 16 16)).foldl (fun s i =>
    let s0 := if i = 0 ∨ ctrlKind c ≠ 0 then tileStart k c start i s else s
    let s1 := runStep k d i s0
    tileOut k d i (accsOf s1 k) s1) s
  if (coreRegs t k).parity = [] then t else onCoreRegs k (fun g => { g with parity := [] }) t

/-- A core's issue goes on (R28). -/
def coreRuns (s : State) : Bool := frameRuns s && !s.pwr.issueStopped

/-- The key of the physical core that serves a logical core (R33). -/
def logicalKey (s : State) (cl core : Nat) : Option Nat := (servedBy (clusterOf s cl) core).map (coreKey cl)

/-- A descriptor runs on the physical core that serves a logical core, while the frame runs and it is the next of
the core's chains (R81). -/
def onCore (cl core : Nat) (ok : Bool) (d : List Word) (f : Nat → State → State) (s : State) : State :=
  if coreRuns s && ok then
    match logicalKey s cl core with
    | some k => runDue (coreHere cl core) core d (f k) s
    | none => s
  else s

/-- A MATRIX descriptor is legal (R46, R47, R82). -/
def matrixOk (d : List Word) : Bool :=
  envOk 1 d && (badMatrix d).isNone && pairOk (ctrlFmtA (wd d 1)) (ctrlFmtB (wd d 1))

/-- MATRIX_DESCRIPTOR. -/
def execMatrixDescriptor (cl core : Fin 64) (d : List Word) (start : Option Nat) (s : State) : Out :=
  live s (onCore cl.val core.val (matrixOk d) d (fun k t => runMatrix k d start t) s)

/-! ## Vector arithmetic (R64 to R66) -/

/-- A result and whether it is NaN, or an overflow to Inf. -/
abbrev VRes := Word × Bool

/-- The canonical NaN of FP32 (R59). -/
def nan32 : Word := 0x7FC00000#32

/-- A value as an FP32 word, rounded by RNE or RZ (R64); the flag says that a finite value overflowed to
Inf. -/
def toF32 (mode : Nat) (v : FVal) : VRes :=
  match v with
  | .nan => (nan32, false)
  | .inf n => (w32 (withSign (wbFmt 0) n 0x7F800000), false)
  | .fin n m e =>
    if m = 0 then (w32 (withSign (wbFmt 0) n 0), false)
    else
      let c := roundMag 23 (-126) mode 0 m e
      if 0x7F7FFFFF < c then
        if mode = 1 then (w32 (withSign (wbFmt 0) n 0x7F7FFFFF), false)
        else (w32 (withSign (wbFmt 0) n 0x7F800000), true)
      else (w32 (withSign (wbFmt 0) n c), false)

/-- The exact sum, with the zero signs of IEEE 754. -/
def addVal (a b : FVal) : FVal :=
  match a, b with
  | .nan, _ => .nan
  | _, .nan => .nan
  | .inf n, .inf n' => if n = n' then .inf n else .nan
  | .inf n, _ => .inf n
  | _, .inf n => .inf n
  | .fin n m e, .fin n' m' e' =>
    let x := exactSum [(signed n m, e), (signed n' m', e')]
    if x.1 = 0 then .fin (n && n') 0 0 else .fin (decide (x.1 < 0)) x.1.natAbs x.2

/-- The exact product. -/
def mulVal (a b : FVal) : FVal :=
  match a, b with
  | .nan, _ => .nan
  | _, .nan => .nan
  | .inf n, b => if b.isZero then .nan else .inf (n != b.neg)
  | a, .inf n => if a.isZero then .nan else .inf (a.neg != n)
  | .fin n m e, .fin n' m' e' => .fin (n != n') (m * m') (e + e')

/-- a < b for values that are not NaN; zeros are equal. -/
def ltVal (a b : FVal) : Bool :=
  match a, b with
  | .inf n, .inf n' => n && !n'
  | .inf n, _ => n
  | _, .inf n => !n
  | .fin n m e, .fin n' m' e' =>
    let o := min e e'
    decide (signed n m * pow2 (e - o).toNat < signed n' m' * pow2 (e' - o).toNat)
  | _, _ => false

/-- MIN or MAX of two operands. FREE VALUE: with one NaN operand, and with zeros of both signs
(notes/assumptions/65). -/
def minMax (isMax : Bool) (a b : FVal) : FVal :=
  if a.isNan && b.isNan then .nan
  else if a.isNan then (if Config.minMaxNumber then b else .nan)
  else if b.isNan then (if Config.minMaxNumber then a else .nan)
  else if a.isZero && b.isZero then (if a.neg = b.neg || Config.minMaxFirst isMax then a else b)
  else if isMax then (if ltVal a b then b else a) else (if ltVal b a then b else a)

/-- floor(sqrt n) for n below 2^512, bit by bit. -/
def isqrt (n : Nat) : Nat :=
  (List.range 256).reverse.foldl (fun r i => if (r + 2 ^ i) * (r + 2 ^ i) ≤ n then r + 2 ^ i else r) 0

/-- 2^(x / 2^64) × 2^128 for x below 2^64: the product of the roots 2^(2^-i) of the bits of x. -/
def pow2Frac (x : Nat) : Nat :=
  ((List.range 64).foldl (fun (st : Nat × Nat) i =>
    let root := isqrt (st.2 * 2 ^ 128)
    (if x.testBit (63 - i) then st.1 * root / 2 ^ 128 else st.1, root)) (2 ^ 128, 2 ^ 129)).1

/-- log2(m / 2^256) × 2^100 for m in [2^256, 2^257): squaring gives a bit at a time. -/
def log2Frac (m : Nat) : Nat :=
  ((List.range 100).foldl (fun (st : Nat × Nat) _ =>
    let q := st.2 * st.2 / 2 ^ 256
    if 2 ^ 257 ≤ q then (2 * st.1 + 1, q / 2) else (2 * st.1, q)) (0, m)).1

/-- The reciprocal, reciprocal square root, power and logarithm of m × 2^e, m > 0, to more bits than FP32
has; none where it is no finite number. -/
def fnApprox (op : Nat) (neg : Bool) (m : Nat) (e : Int) : Option FVal :=
  match op with
  | 8 => some (.fin neg (2 ^ 128 / m) (-128 - e))
  | 9 =>
    if neg then none
    else
      let k := (e % 2).toNat
      some (.fin false (isqrt (2 ^ 500 / (m * 2 ^ k))) (-250 - (e - k) / 2))
  | 10 =>
    let x := if 0 ≤ e then signed neg m * pow2 (min e 200).toNat * 2 ^ 64 else fdiv (signed neg m * 2 ^ 64) (pow2 (-e).toNat)
    let i := fdiv x (2 ^ 64)
    if i < -400 ∨ 400 < i then (if neg then some (.fin false 1 (-400)) else none)
    else some (.fin false (pow2Frac (x - i * 2 ^ 64).toNat) (i - 128))
  | _ =>
    if neg then none
    else
      let lg := flog m e
      let f := log2Frac (m * 2 ^ (256 - (Nat.log2 m)))
      let v := lg * 2 ^ 100 + (f : Int)
      some (if v = 0 then .fin false 0 0 else .fin (decide (v < 0)) v.natAbs (-100))

/-- The codes within 2 units in the last place of a positive value: from the code below or at it, and whether the
value is that code's. Below a power of two a unit is half as large, above it twice. -/
def ulpCodes (t : Nat) (exact : Bool) : Nat × Nat :=
  let low := if t % 2 ^ 23 = 0 ∧ 2 ^ 24 ≤ t then (if exact then 4 else 2) else if exact then 2 else 1
  (t - low, if t % 2 ^ 23 = 2 ^ 23 - 1 ∧ 2 ^ 23 ≤ t then t + 1 else t + 2)

/-- The results within R65's bound of an exact 0: the unit in the last place there is 2^-149. -/
def nearZero (i : Nat) : Word := [0#32, 1#32, 2#32, 0x80000000#32, 0x80000001#32, 0x80000002#32].getD (i % 6) 0#32

/-- A vector function's result: a fixed function of its operand within 2 units in the last place of the
exact value (R65). FREE VALUE: which code within that bound, and every result where R65's bound states none:
operands of 0 and Inf, negative ones of RSQRT and LOG2, and results beyond FP32 (notes/assumptions/64). -/
def vecFn (op : Nat) (w : Word) : FVal :=
  match decF32 w with
  | .nan => .nan
  | .inf _ => decF32 (Config.vecOpen op w)
  | .fin n m e =>
    match (if m = 0 ∧ op ≠ 10 then none else if m = 0 then some (.fin false 1 0) else fnApprox op n m e) with
    | some (.fin n' m' e') =>
      if m' = 0 then decF32 (nearZero (Config.vecUlp op w))
      else
        let c := roundMag 23 (-126) 1 0 m' e'
        let b := ulpCodes c (roundMag 23 (-126) 1 0 m' e' == roundMag 23 (-126) 2 0 m' e')
        if 0x7F7FFFFF < c then decF32 (Config.vecOpen op w)
        else decF32 (w32 (withSign (wbFmt 0) n' (min 0x7F7FFFFF (b.1 + Config.vecUlp op w % (b.2 + 1 - b.1)))))
    | _ => decF32 (Config.vecOpen op w)

/-- What a lane gives: its FP32 word and the flags of R66. DESIGN CHOICE: an Inf result from operands none of which
is Inf or NaN counts as an overflow, that of a function at 0 among them (notes/assumptions/156). -/
def laneOut (mode : Nat) (ops : List FVal) (v : FVal) : Word × Word :=
  let r := toF32 mode v
  let anyNan := ops.any FVal.isNan
  (r.1, (if v.isNan && !anyNan then flagVecNan else 0) |||
        (if r.2 || (v.isInf && !ops.any FVal.isInf && !anyNan) then flagVecOvf else 0))

/-- A lane's operation by OP (R83). DEDUCED: what R64 names beside these, compare and conversion between FP32 and
integers, has no OP in R83 and is no command (notes/assumptions/155). -/
def laneOp (op mode : Nat) (a b c : Word) : Word × Word :=
  let x := decF32 a
  let y := decF32 b
  match op with
  | 1 => laneOut mode [x, y] (addVal x y)
  | 2 => laneOut mode [x, y] (mulVal x y)
  | 3 => laneOut mode [x, y, decF32 c] (addVal (mulVal x y) (decF32 c))
  | 4 => laneOut 0 [x, y] (minMax false x y)
  | 5 => laneOut 0 [x, y] (minMax true x y)
  | 6 | 7 => (a, 0)
  | _ => laneOut mode [x] (vecFn op a)

/-- The rounding of arithmetic: RZ where RND says so, else RNE. DEDUCED: RND's other two codes round
arithmetic as RNE and act in the conversion (notes/assumptions/78). -/
def arithMode (rnd : Nat) : Nat := if rnd = 1 then 1 else 0

/-- The 64 lanes of group g of an operand as FP32 words; a lane that reads a poisoned word gives the
canonical NaN (R113). -/
def laneWords (s : State) (k a g : Nat) : List (Word × Bool) :=
  (List.range 64).map fun i =>
    let x := a + 256 * g + 4 * i
    if (sramBad s k x 4).isEmpty then (wordAt (sramRead s k x 4) 0, false) else (nan32, true)

/-- A balanced tree of pairs in lane order (R65), with RND's arithmetic rounding. -/
def treeAdd (mode : Nat) : Nat → List Word → Word × Word
  | 0, l => (wd l 0, 0)
  | n + 1, l =>
    let l0 := treeAdd mode n (l.take (2 ^ n))
    let l1 := treeAdd mode n (l.drop (2 ^ n))
    let r := laneOp 1 mode l0.1 l1.1 0
    (r.1, l0.2 ||| l1.2 ||| r.2)

/-! ## Vector results (R45, R58, R83) -/

/-- The address of element i of a result. -/
def elemAddr (fmt dst i : Nat) : Nat :=
  if fmt < 4 then dst + i * outBytes fmt else dst + i / 32 * blockBytes fmt

/-- The flags of R66 for the conversion of a result that is no NaN, or is finite, to an element that is NaN, or
Inf; `nanIn`: an operand was NaN. -/
def convFlags (fmt : Nat) (nanIn : Bool) (v : FVal) (code : Nat) : Word :=
  (if (decElem (fmt - 1) code).isNan && !v.isNan && !nanIn then flagVecNan else 0) |||
    (if (decElem (fmt - 1) code).isInf && !v.isInf && !v.isNan then flagVecOvf else 0)

/-- One element converted and stored (R58, R64, R66). An FP32 result is stored as it stands, a NaN in canonical
form. -/
def storeElem (k : Nat) (d : List Word) (i : Nat) (x : Word × Bool) (s : State) : State :=
  let w := x.1
  let fmt := fld (wd d 1) 20 4
  let a := elemAddr fmt (fld (wd d 4) 0 19) i
  if fmt = 0 then sramWrite k a (wordBytes (if (decF32 w).isNan then nan32 else w)) s
  else
    let r := frameDraw s (fld (wd d 5) 16 16) ((wd d 6).toNat + i)
    let o := wbVal fmt (fld (wd d 1) 18 2) r (decF32 w)
    setArith k (o.2 ||| convFlags fmt x.2 (decF32 w) o.1) (sramWrite k a (leBytes (outBytes fmt) o.1) s)

/-- A block of 32 encoded and stored (R45). A last block that is not full is filled with zeros. DESIGN
CHOICE (notes/assumptions/79). FREE VALUE: where an MX result's scale goes (notes/assumptions/69). -/
def storeBlock (k : Nat) (d : List Word) (i : Nat) (x : List (Word × Bool)) (s : State) : State :=
  let l := x.map fun y => y.1
  let fmt := fld (wd d 1) 20 4
  let draws := (List.range 32).map fun j => frameDraw s (fld (wd d 5) 16 16) ((wd d 6).toNat + i + j)
  let b := encBlock fmt (fld (wd d 1) 18 2) draws (l.map decF32)
  let a := elemAddr fmt (fld (wd d 4) 0 19) i
  let s1 := if isW4s fmt then sramWrite k a (w4sBytes b.1 b.2.1 b.2.2.1 b.2.2.2.1) s
            else sramWrite k (Config.scaleBase d 2 + i / 32) [BitVec.ofNat 8 b.2.1] (sramWrite k a (packElems fmt b.1) s)
  setArith k ((if b.2.2.2.2 then 1#32 else 0) |||
    (if b.2.1 = 0xFF ∧ x.all (fun y => !y.2 && !(decF32 y.1).isNan) then flagVecNan else 0)) s1

/-- Results from element i on, each with whether an operand was NaN, stored in the output format. -/
def storeResults (k : Nat) (d : List Word) (i : Nat) (l : List (Word × Bool)) (s : State) : State :=
  if fld (wd d 1) 20 4 < 4 then
    ((List.range l.length).zip l).foldl (fun s x => storeElem k d (i + x.1) x.2 s) s
  else
    (List.range ((l.length + 31) / 32)).foldl (fun s j =>
      storeBlock k d (i + 32 * j) ((l.drop (32 * j)).take 32) s) s

/-- The lanes' inputs of a group, with whether any was poisoned. -/
def groupIn (s : State) (k : Nat) (d : List Word) (g : Nat) :
    List (Word × Bool) × List (Word × Bool) × List (Word × Bool) :=
  let op := fld (wd d 1) 0 8
  (laneWords s k (fld (wd d 2) 0 19) g,
   if binaryOp op then laneWords s k (fld (wd d 3) 0 19) g else [],
   if op = 3 then laneWords s k (fld (wd d 4) 0 19) g else [])

/-- The poisoned words that a group's lanes read. -/
def groupBad (s : State) (k : Nat) (d : List Word) (g : Nat) : Nat :=
  let op := fld (wd d 1) 0 8
  let n (a : Word) : Nat := (sramBad s k (fld a 0 19 + 256 * g) 256).length
  n (wd d 2) + (if binaryOp op then n (wd d 3) else 0) + (if op = 3 then n (wd d 4) else 0)

/-- A group's inputs are used: poison is consumed and a poisoned lane sets VEC_NAN (R113). -/
def groupUse (k : Nat) (d : List Word) (g : Nat) (s : State) : State :=
  let b := groupBad s k d g
  setArith k (if b = 0 then 0 else flagVecNan) (poisonUsed b s)

/-- One group of 64 elements; a lane that reads a poisoned word gives the canonical NaN (R113). -/
def runGroup (k : Nat) (d : List Word) (g : Nat) (s : State) : State :=
  let op := fld (wd d 1) 0 8
  let mode := arithMode (fld (wd d 1) 18 2)
  let (x, y, z) := groupIn s k d g
  let lane (l : List (Word × Bool)) (i : Nat) : Word × Bool := l.getD i (0, false)
  let isNan (l : List (Word × Bool)) (i : Nat) : Bool := (decF32 (lane l i).1).isNan
  let rs := (List.range 64).map fun i =>
    if (lane x i).2 || (lane y i).2 || (lane z i).2 then (nan32, 0)
    else laneOp op mode (lane x i).1 (lane y i).1 (lane z i).1
  storeResults k d (64 * g) (rs.mapIdx fun i r => (r.1, isNan x i || isNan y i || isNan z i))
    (setArith k (rs.foldl (fun w r => w ||| r.2) 0) (groupUse k d g s))

/-- A VECTOR descriptor on physical core k, group after group. -/
def runVector (k : Nat) (d : List Word) (s : State) : State :=
  (List.range (fld (wd d 5) 0 16)).foldl (fun s g => runGroup k d g s) s

/-- REDUCE_ADD on physical core k: one result for each group, stored one after the other. DEDUCED
(notes/assumptions/79). -/
def runReduce (k : Nat) (d : List Word) (s : State) : State :=
  let n := fld (wd d 5) 0 16
  let mode := arithMode (fld (wd d 1) 18 2)
  let ins (g : Nat) : List Word := (laneWords s k (fld (wd d 2) 0 19) g).map fun x => x.1
  let rs := (List.range n).map fun g => treeAdd mode 6 (ins g)
  let s1 := (List.range n).foldl (fun s g => groupUse k d g s) s
  storeResults k d 0 (rs.mapIdx fun g r => (r.1, (ins g).any fun w => (decF32 w).isNan)) (setArith k (rs.foldl (fun w r => w ||| r.2) 0) s1)

/-- A VECTOR descriptor of an OP is legal (R83). -/
def vectorOk (op : Nat) (d : List Word) : Bool := envOk 2 d && (badVector d).isNone && fld (wd d 1) 0 8 == op

/-- A VECTOR descriptor runs on the core that serves a logical core. -/
def vector (op : Nat) (cl core : Fin 64) (d : List Word) (s : State) : Out :=
  live s (onCore cl.val core.val (vectorOk op d) d (fun k t => runVector k d t) s)

/-- ADD. -/
def execAdd (cl core : Fin 64) (d : List Word) (s : State) : Out := vector 1 cl core d s
/-- MUL. -/
def execMul (cl core : Fin 64) (d : List Word) (s : State) : Out := vector 2 cl core d s
/-- FMA: A × B + DST with one rounding. -/
def execFma (cl core : Fin 64) (d : List Word) (s : State) : Out := vector 3 cl core d s
/-- MIN. -/
def execMin (cl core : Fin 64) (d : List Word) (s : State) : Out := vector 4 cl core d s
/-- MAX. -/
def execMax (cl core : Fin 64) (d : List Word) (s : State) : Out := vector 5 cl core d s
/-- CVT: FP32 to the output format. -/
def execCvt (cl core : Fin 64) (d : List Word) (s : State) : Out := vector 6 cl core d s
/-- ENCODE: blocks of 32 FP32 values (R45). -/
def execEncode (cl core : Fin 64) (d : List Word) (s : State) : Out := vector 7 cl core d s
/-- RCP. -/
def execRcp (cl core : Fin 64) (d : List Word) (s : State) : Out := vector 8 cl core d s
/-- RSQRT. -/
def execRsqrt (cl core : Fin 64) (d : List Word) (s : State) : Out := vector 9 cl core d s
/-- EXP2. -/
def execExp2 (cl core : Fin 64) (d : List Word) (s : State) : Out := vector 10 cl core d s
/-- LOG2. -/
def execLog2 (cl core : Fin 64) (d : List Word) (s : State) : Out := vector 11 cl core d s
/-- REDUCE_ADD (R65). -/
def execReduceAdd (cl core : Fin 64) (d : List Word) (s : State) : Out :=
  live s (onCore cl.val core.val (vectorOk 12 d) d (fun k t => runReduce k d t) s)

/-! ## Errors of a core (R39, R112) -/

/-- A parity error in an accumulator lane: the affected output of the tile writes as NaN (R39). DEDUCED: between two
operations, that of the next one's tiles (notes/assumptions/151). -/
def parityAcc (k i : Nat) (s : State) : State :=
  (onCoreRegs k (fun g => { g with parity := addSorted g.parity i }) s).onCore fun c => { c with accs := sput c.accs (1024 * k + i) { (sget c.accs (1024 * k + i)).getD {} with nan := true } }

/-- CORE_PARITY. -/
def execCoreParity (cl : Fin 64) (core : Fin 65) (acc : List (Fin 1024)) (s : State) : Out :=
  live s
    (if computeOn s then
       let k := coreKey cl.val core.val
       let s1 := acc.foldl (fun s i => parityAcc k i.val s) s
       raise Ev.coreParity [(1, cl.val), (1, core.val)] (onCoreRegs k (fun g => { g with faultPending := true }) s1)
     else s)

/-- An SRAM word is poisoned. -/
def poisonWord (k a : Nat) (s : State) : State :=
  s.onCore fun c => { c with sramPoison := addSorted c.sramPoison (sramAt k (a / 8 * 8) / 8) }

/-- SRAM_SCRUB: the scrub reads a word: corrected, or delivered as poison and logged (R112). -/
def execSramScrub (cl : Fin 64) (core : Fin 65) (addr : Nat) (out : EccOutcome) (s : State) : Out :=
  live s
    (if computeOn s && decide (addr < 0x60000) then
       match out with
       | .clean => s
       | .corrected => s.onMem fun m =>
           { m with event := setBit m.event 0, sramCe := vmod m.sramCe cl.val fun n => satAdd 0xFFFF n 1 }
       | .uncorrectable =>
         raise Ev.memSramUe [(1, cl.val), (1, core.val), (4, addr)]
           ((poisonWord (coreKey cl.val core.val) addr s).onMem fun m =>
             { m with event := setBit m.event 1, sramUe := vmod m.sramUe cl.val fun n => satAdd 0xFFFF n 1 })
     else s)

end Sys2Proof.Machine
end

