-- ==== Sys2Proof/Machine/Memory.lean ====
section
/-! DEFINITION. The stacks: registers, training, correction and scrub, HBM descriptors, exported windows and
the memory opcodes (R84, R110 to R123, R125, R130 to R141). -/

namespace Sys2Proof.Machine

/-! ## Registers (R130 to R140) -/

/-- The STATE code of a stack (R132). -/
def StackSt.code : StackSt → Nat
  | .off => 0
  | .training => 1
  | .inService => 2
  | .selfRefresh => 3
  | .retired => 4
  | .failed => 5

/-- MEM_STACK_STAT. -/
def regStackStat (k : Stack) : Word :=
  mkW [(16, k.temp % 256), (10, bn k.system), (9, bn k.refresh2x), (8, bn k.zeroed), (0, k.st.code)]

/-- Requests of a stack that are outstanding between steps: its rereads (R120, R134). -/
def inflightNow (s : State) (h : Nat) : Nat := (s.mem.rereads.filter fun x => x.1 * 32 / 0x1000000000 == h).length

/-- Tags that the spill engine holds (R138). -/
def spillTags (s : State) : Nat := (s.lace.txns.filter fun t => t.holder == .spill).length

def regMemEcc (k : Stack) : Word := mkW [(16, k.ue), (0, k.ce)]
def regInflight (s : State) (h : Nat) : Word := mkW [(16, (stackOf s h).inflightPeak), (0, inflightNow s h)]
def regScrubCtl (m : MemBlk) : Word := mkW [(16, bn m.scrubEn), (0, m.passHours)]
def regSpillStat (s : State) : Word := mkW [(16, s.mem.tagsPeak), (0, spillTags s)]

/-- MEM_POOL_WIN. -/
def regPoolWin (w : PoolWin) : Word := mkW [(31, bn w.valid), (24, w.stack), (12, w.base), (0, w.size)]

/-- MEM_SRAM_ECC of a cluster. -/
def regSramEcc (m : MemBlk) (n : Nat) : Word := mkW [(16, vget m.sramUe n 0), (0, vget m.sramCe n 0)]

/-- A read of the MEM block. -/
def regMem (s : State) (off : Nat) : Word :=
  if off < 0x60 then
    let k := stackOf s (off / 0x10)
    if off % 0x10 = 0 then regStackStat k
    else if off % 0x10 = 4 then regMemEcc k
    else if off % 0x10 = 8 then regInflight s (off / 0x10)
    else if off % 0x10 = 0xC then w32 k.bpCnt
    else 0
  else if off = 0x100 then regScrubCtl s.mem
  else if off = 0x104 then s.mem.event
  else if off = 0x108 then regSpillStat s
  else if 0x200 ≤ off ∧ off < 0x240 ∧ off % 4 = 0 then regPoolWin (vget s.mem.wins ((off - 0x200) / 4) {})
  else if 0x400 ≤ off ∧ off < 0x500 ∧ off % 4 = 0 then regSramEcc s.mem ((off - 0x400) / 4)
  else 0

/-- A write of the MEM block. -/
def memWrite (off : Nat) (be : BitVec 4) (w : Word) (s : State) : State :=
  if off < 0x60 then
    let h := off / 0x10
    if off % 0x10 = 4 then
      onStack h (fun k => let x := wRW 0xFFFFFFFF#32 (regMemEcc k) w be
                          { k with ue := fld x 16 16, ce := fld x 0 16 }) s
    else if off % 0x10 = 8 then
      onStack h (fun k =>
        let x := fld (wRW 0x03FF0000#32 (mkW [(16, k.inflightPeak)]) w be) 16 10
        { k with inflightPeak := max (min 512 x) (inflightNow s h) }) s
    else if off % 0x10 = 0xC then
      onStack h (fun k => { k with bpCnt := (wRW 0xFFFFFFFF#32 (w32 k.bpCnt) w be).toNat }) s
    else s
  else if off = 0x100 then
    s.onMem fun m =>
      let x := wRW 0x0001FFFF#32 (regScrubCtl m) w be
      { m with scrubEn := bitOf x 16, passHours := clampN 1 720 (fld x 0 16) }
  else if off = 0x104 then s.onMem fun m => { m with event := wW1C 0x7F#32 m.event w be }
  else if off = 0x108 then
    s.onMem fun m =>
      let x := fld (wRW 0x1FFF0000#32 (mkW [(16, m.tagsPeak)]) w be) 16 13
      { m with tagsPeak := max (min 4096 x) (spillTags s) }
  else if 0x400 ≤ off ∧ off < 0x500 ∧ off % 4 = 0 then
    let n := (off - 0x400) / 4
    s.onMem fun m =>
      let x := wRW 0xFFFFFFFF#32 (regSramEcc m n) w be
      { m with sramUe := vmod m.sramUe n fun _ => fld x 16 16, sramCe := vmod m.sramCe n fun _ => fld x 0 16 }
  else s

/-! ## Opcodes (R141) -/

/-- The compute domain is off for an opcode: S2 and S3 (R141, R488). -/
def computeOff (s : State) : Bool := !inS0S1 s

/-- MEM_STATUS: served in S2 as well. -/
def execMemStatus (r : Req) (s : State) : Out :=
  opcode 0x400 (fun _ s =>
    (s, some (0, (List.range 6).map (fun h => regStackStat (stackOf s h)) ++ [w32 s.mem.systemStack]))) r s

/-- MEM_SCRUB_SET. -/
def execMemScrubSet (r : Req) (s : State) : Out :=
  opcode 0x401 (fun e s =>
    let w := wd e.words 0
    let t := s.onMem fun m => { m with scrubEn := bitOf w 16, passHours := clampN 1 720 (fld w 0 16) }
    (t, some (0, [regScrubCtl t.mem]))) r s

/-- A window that MEM_POOL_EXPORT asks for, each field in its range. -/
def askedWin (w : Word) : PoolWin :=
  let b := clampN 0 714 (fld w 12 12)
  { valid := true, stack := clampN 0 5 (fld w 24 3), base := b, size := clampN 1 (715 - b) (fld w 0 12) }

/-- A window overlaps another valid one, the system region, or lies on a stack not in service (R125). -/
def winDenied (s : State) (n : Nat) (x : PoolWin) : Bool :=
  let lo := x.base * 0x4000000
  let hi := (x.base + x.size) * 0x4000000
  (stackOf s x.stack).st != .inService || touchesSystem s x.stack lo (hi - lo) ||
    (List.range 16).any fun i => i != n && winOverlaps (vget s.mem.wins i {}) x.stack lo hi

/-- What MEM_POOL_EXPORT does. DESIGN CHOICE: with VALID 0 the window's other fields and reply word 2 become 0
(notes/assumptions/161). -/
def doPoolExport (e : Ctx) (s : State) : State × Answer :=
  let w1 := wd e.words 0
  let v := bitOf w1 8
  let n := fld w1 0 4
  let x := askedWin (wd e.words 1)
  let ws := [mkW [(8, bn v), (0, n)], if v then mkW [(24, x.stack), (12, x.base), (0, x.size)] else 0]
  if computeOff s then (s, some (7, []))
  else if s.last.st != .empty || s.last.standbyValid then (s, some (2, ws))
  else if v && winDenied s n x then (s, some (6, ws))
  else (s.onMem fun m => { m with wins := vmod m.wins n fun _ => if v then x else {} }, some (0, ws))

/-- MEM_POOL_EXPORT. -/
def execMemPoolExport (r : Req) (s : State) : Out := opcode 0x402 doPoolExport r s

/-! ## Contents of the stacks (R113, R115) -/

/-- n bytes of a stack, and which of their 32-byte units are poisoned, counted from the first. -/
def stackRead (s : State) (h a n : Nat) : List Byte := s.mem.hbm.read (hbmBase h + a) n
def stackBad (s : State) (h a n : Nat) : List Nat :=
  ((s.mem.hbmPoison.filter fun u => decide (hbmBase h + a ≤ 32 * u ∧ 32 * u < hbmBase h + a + n)).map fun u =>
    u - (hbmBase h + a) / 32)

/-- Bytes stored in a stack with their poisoned units: new data removes poison, poison is copied. -/
def stackWrite (h a : Nat) (l : List Byte) (bad : List Nat) (s : State) : State :=
  let lo := hbmBase h + a
  s.onMem fun m =>
    { m with hbm := m.hbm.write lo l
             hbmPoison := bad.foldl (fun p u => addSorted p (lo / 32 + u))
               (m.hbmPoison.filter fun u => !decide (lo ≤ 32 * u ∧ 32 * u + 32 ≤ lo + l.length)) }

/-- The words of a 32-byte unit of core k's SRAM poisoned. -/
def poisonUnit (k x : Nat) (p : List Nat) : List Nat :=
  (List.range 4).foldl (fun p j => if x + 8 * j < 0x60000 then addSorted p (sramAt k (x + 8 * j) / 8) else p) p

/-- Bytes stored in core k's SRAM with the poisoned 32-byte units of their source: each poisons four words
(R113). -/
def sramFill (k a : Nat) (l : List Byte) (bad : List Nat) (s : State) : State :=
  (sramWrite k a l s).onCore fun c =>
    { c with sramPoison := bad.foldl (fun p u => poisonUnit k (a + 32 * u) p) c.sramPoison }

/-- The 32-byte units of a range of core k's SRAM that hold a poisoned word. -/
def sramBadUnits (s : State) (k a n : Nat) : List Nat :=
  ((sramBad s k a n).map fun w => (8 * w - sramAt k a) / 32).eraseDups

/-! ## HBM descriptors (R84, R113, R116 to R118) -/

/-- What a transfer's requests leave in MEM_INFLIGHT, MEM_BP_CNT and, of a read, MEM_ECC.CE: with those of other
engines on the stack at most 512 outstanding, the refusals at that bound, and at most each of its 32-byte units
corrected (R118, R120). FREE VALUE: how many (notes/assumptions/73). -/
def countRequests (read : Bool) (h a n : Nat) (s : State) : State :=
  if n = 0 then s
  else
    let units := (a + n - 1) / 32 - a / 32 + 1
    onStack h (fun k =>
      { k with inflightPeak := max k.inflightPeak (1 + Config.outstanding s.free % 512)
               bpCnt := satAdd 0xFFFFFFFF k.bpCnt (Config.stallCycles s.free)
               ce := if read then satAdd 0xFFFF k.ce (Config.corrected s.free % (units + 1)) else k.ce })
      { s with free := s.free + 1 }

/-- What the result of a run may depend on (R101), for scalar register i of logical core `core` of cluster `cl`,
which core k serves, applied to a free value. -/
def sregOf {α : Type} (f : List Word → BitVec 32 → Nat → Nat → List (Nat × Byte) → List Nat → α) (s : State)
    (k cl core i : Nat) : α :=
  f s.last.active s.last.pass s.last.f (32 * (64 * cl + core) + i)
    ((s.core.sram.filter fun x => inSram k x.1).map fun x => (x.1 - sramAt k 0, x.2))
    ((corePoison s k).map fun w => w - sramAt k 0 / 8)

/-- A scalar register takes the value that the transfer finds in it. FREE VALUE (notes/assumptions/71). -/
def loadSreg (k cl core i : Nat) (s : State) : State :=
  s.onCore fun c =>
    { c with sregs := sput c.sregs (32 * k + i) (sregOf Config.sregValue s k cl core i)
             sregPoison := if sregOf Config.sregPoisoned s k cl core i then addSorted c.sregPoison (32 * k + i)
                           else c.sregPoison.filter (· != 32 * k + i) }

/-- The keys of the cores that a transfer names: one, or all 64 (R84). -/
def targetKeys (s : State) (cl core : Nat) : List Nat :=
  if core = 0xFF then (List.range 64).filterMap (logicalKey s cl) else (logicalKey s cl core).toList

/-- The key of the core whose data a transfer to a stack takes. FREE VALUE with CORE 0xFF
(notes/assumptions/72). -/
def sourceKey (s : State) (cl core : Nat) : Option Nat :=
  logicalKey s cl (if core = 0xFF then Config.broadcastCore % 64 else core)

/-- A transfer within reach: the stack to SRAM, or SRAM to the stack. -/
def moveHbm (toStack : Bool) (h a n sa cl core : Nat) (s : State) : State :=
  let s0 := countRequests (!toStack) h a n s
  if toStack then
    match sourceKey s0 cl core with
    | none => s0
    | some k =>
      let bad := sramBadUnits s0 k sa n
      poisonUsed bad.length (stackWrite h a (sramRead s0 k sa n) bad s0)
  else
    let bad := stackBad s0 h a n
    let l := stackRead s0 h a n
    poisonUsed bad.length ((targetKeys s0 cl core).foldl (fun s k => sramFill k sa l bad s) s0)

/-- A transfer out of range: the stack is not touched, a read fills its destination with zeros (R84). -/
def skipHbm (toStack : Bool) (n sa cl core : Nat) (s : State) : State :=
  let t := if toStack then s
           else (targetKeys s cl core).foldl (fun s k => sramWrite k sa (List.replicate n 0) s) s
  raiseLast Ev.lastIndirectRange [] s.last.active t

/-- An HBM descriptor runs (R84). DEDUCED: a range that only a move of the system region brought into it
is handled as an INDIRECT one (notes/assumptions/80). -/
def runHbm (d : List Word) (s : State) : State :=
  let w2 := wd d 2
  let w5 := wd d 5
  let h := fld w2 16 3
  let n := (wd d 3).toNat
  let sa := fld (wd d 4) 0 19
  let cl := fld w5 8 8
  let core := fld w5 0 8
  let base := addr48 (wd d 1) (fld w2 0 16)
  let one := if core = 0xFF then 0 else core
  let k := (logicalKey s cl one).getD 0
  let reg := 32 * k + fld w5 16 5
  let s0 := if bitOf w5 23 then loadSreg k cl one (fld w5 16 5) s else s
  let a := if bitOf w5 23 then base + 64 * ((sget s0.core.sregs reg).getD 0).toNat else base
  let dead := bitOf w5 23 && s0.core.sregPoison.contains reg
  let s1 := poisonUsed (bn dead) s0
  if dead || !hbmIn a n || !lastRange s1 h a n then skipHbm (bitOf w2 19) n sa cl core s1
  else moveHbm (bitOf w2 19) h a n sa cl core s1

/-- HBM_DESCRIPTOR. -/
def execHbmDescriptor (d : List Word) (s : State) : Out :=
  live s
    (if frameRuns s && envOk 3 d && (badHbm (runReach s) (fld (wd d 2) 16 3) d).isNone then
       runDue (hbmHere (fld (wd d 2) 16 3)) 0 d (runHbm d) s
     else s)

/-! ## Errors, scrub, refresh and training (R119 to R122) -/

/-- A unit's index in the list of poisoned units. -/
def unitOf (h unit : Nat) : Nat := hbmBase h / 32 + unit

/-- A unit is poisoned, counted and logged (R120). -/
def unitLost (h unit : Nat) (s : State) : State :=
  raise Ev.memHbmUe [(1, h), (8, 32 * unit)]
    ((onStack h (fun k => { k with ue := satAdd 0xFFFF k.ue 1 }) s).onMem fun m =>
      { m with hbmPoison := addSorted m.hbmPoison (unitOf h unit), event := setBit m.event 3 })

/-- The stack answers: in service, with the compute domains on. -/
def stackServes (s : State) (h : Nat) : Bool := (stackOf s h).st == .inService && computeOn s

/-- HBM_REREAD_COMPLETE: the first or the second reread of an uncorrectable unit (R120). The transfer that
reads the unit takes what the stack then holds (notes/assumptions/81). -/
def execHbmRereadComplete (stack : Fin 6) (unit : Nat) (second ok : Bool) (s : State) : Out :=
  live s
    (let u := unitOf stack.val unit
     if !stackServes s stack.val || decide (stackBytes ≤ 32 * unit) || (second && !s.mem.rereads.contains (u, 1)) then s
     else
       let t := s.onMem fun m => { m with rereads := m.rereads.filter fun x => x.1 != u }
       if ok then raise Ev.memHbmRetry [] (t.onMem fun m => { m with event := setBit m.event 2 })
       else if second then unitLost stack.val unit t
       else
         let r := t.onMem fun m => { m with rereads := m.rereads ++ [(u, 1)] }
         onStack stack.val (fun k => { k with inflightPeak := max k.inflightPeak (inflightNow r stack.val) }) r)

/-- PATROL_SCRUB of a unit: corrected, or poisoned when its rereads fail too (R120, R121). -/
def execPatrolScrub (stack : Fin 6) (unit : Nat) (out : EccOutcome) (s : State) : Out :=
  live s
    (if s.mem.scrubEn && stackServes s stack.val && decide (32 * unit < stackBytes) then
       match out with
       | .clean => s
       | .corrected => onStack stack.val (fun k => { k with ce := satAdd 0xFFFF k.ce 1 }) s
       | .uncorrectable => unitLost stack.val unit s
     else s)

/-- DOUBLED_REFRESH: a stack's temperature in °C; from 85 °C it refreshes at twice the base rate (R119). -/
def execDoubledRefresh (stack : Fin 6) (temp : Nat) (s : State) : Out :=
  live s
    (if (stackOf s stack.val).st == .inService then
       onStack stack.val (fun k => { k with temp := min 255 temp, refresh2x := decide (85 ≤ temp) }) s
     else s)

/-- A stack has trained: in service with its contents, or zero-filled at power-up; in S2 it goes on to
self-refresh when the power-up ends (R122). -/
def trained (h temp : Nat) (s : State) : State :=
  let fresh := !(stackOf s h).zeroed
  let t := s.whenB fresh fun t => t.onMem (wipeHbm h 0 stackBytes)
  onStack h (fun k => { k with st := .inService, zeroed := true, temp := min 255 temp
                               refresh2x := decide (85 ≤ temp), system := s.mem.systemStack == h }) t

/-- A stack whose training fails: failed, recorded as retired, the system region moved where it held it
(R122, R479, R480). DEDUCED: its state reads failed (notes/assumptions/82). -/
def trainFailed (h : Nat) (s : State) : State :=
  let t := raise Ev.hbmTrainFail [(1, h)]
    (repairWrite (onStack h (fun k => { k with st := .failed, recRetired := true, retireWaiting := false }) s))
  if s.mem.systemStack = h then moveSystem h t else t

/-- HBM_TRAIN_DONE. -/
def execHbmTrainDone (stack : Fin 6) (ok : Bool) (temp : Nat) (s : State) : Out :=
  live s
    (if (stackOf s stack.val).st == .training && railUp s 2 then
       if ok then trained stack.val temp s else trainFailed stack.val s
     else s)

end Sys2Proof.Machine
end

