-- ==== Sys2Proof/Machine/Lace.lean ====
section
/-! DEFINITION. Lace: its registers and opcodes, lanes and light, transactions with their tags, replies and
timeouts, spill and LACE descriptors, incoming requests and JOIN (R124 to R129, R143 to R166, R173, R176 to
R184, R481). -/

namespace Sys2Proof.Machine

/-! ## Registers (R176 to R183) -/

/-- The STATE code of a lane (R183). -/
def LaneSt.code : LaneSt → Nat
  | .off => 0
  | .waitLight => 1
  | .training => 2
  | .active => 3
  | .down => 4
  | .retired => 5
  | .failed => 6
  | .unused => 7

/-- LACE_ID. -/
def regLaceId (l : LaceBlk) : Word := mkW [(31, bn l.idValid), (6, l.rack), (0, l.slot)]

/-- LACE_CTL. -/
def regLaceCtl (l : LaceBlk) : Word := mkW [(24, l.maxVer), (0, l.timeoutUs)]

/-- LACE_TAGS. -/
def regLaceTags (l : LaceBlk) : Word := mkW [(16, l.tagsPeak), (0, l.txns.length)]

/-- LACE_LANE_STAT of a lane; DELAY is in ns (R153, R183). -/
def regLane (x : Lane) : Word :=
  mkW [(29, x.st.code), (27, x.ver), (26, bn x.peerSled), (15, x.peer), (12, x.fail),
       (0, min 4095 (quant (mkRat x.delay 2)).toNat)]

/-- A read of the LACE block. -/
def regLace (s : State) (off : Nat) : Word :=
  if off = 0x00 then regLaceId s.lace
  else if off = 0x04 then regLaceCtl s.lace
  else if off = 0x08 then s.lace.event
  else if off = 0x0C then regLaceTags s.lace
  else if off = 0x10 then w32 s.lace.tagStall
  else if off = 0x14 then w32 s.lace.lateDrop
  else if off = 0x18 then w32 s.lace.replayCnt
  else if 0x100 ≤ off ∧ off < 0x300 ∧ off % 4 = 0 then regLane (laneOf s ((off - 0x100) / 4))
  else 0

/-- LACE_CTL takes a value, each field in its range (R179). -/
def setLaceCtl (w : Word) (l : LaceBlk) : LaceBlk :=
  { l with maxVer := max 1 (fld w 24 2), timeoutUs := clampN 10 1000 (fld w 0 16) }

/-- A write of the LACE block. -/
def laceWrite (off : Nat) (be : BitVec 4) (w : Word) (s : State) : State :=
  let all := 0xFFFFFFFF#32
  s.onLace fun l =>
    if off = 0x04 then setLaceCtl (wRW 0x0300FFFF#32 (regLaceCtl l) w be) l
    else if off = 0x08 then { l with event := wW1C 0x7FF#32 l.event w be }
    else if off = 0x0C then
      { l with tagsPeak := max (min 8192 (fld (wRW 0x3FFF0000#32 (mkW [(16, l.tagsPeak)]) w be) 16 14)) l.txns.length }
    else if off = 0x10 then { l with tagStall := (wRW all (w32 l.tagStall) w be).toNat }
    else if off = 0x14 then { l with lateDrop := (wRW all (w32 l.lateDrop) w be).toNat }
    else if off = 0x18 then { l with replayCnt := (wRW all (w32 l.replayCnt) w be).toNat }
    else l

/-- A bit of LACE_EVENT sets. -/
def laceEvent (i : Nat) (s : State) : State := s.onLace fun l => { l with event := setBit l.event i }

/-! ## Tags (R127, R160) -/

/-- The generation of a tag. -/
def genOf (l : LaceBlk) (tag : Nat) : Nat := (sget l.gens tag).getD 0

/-- The lowest free tag (notes/assumptions/85). -/
def freeTag (l : LaceBlk) : Option Nat := (List.range 8192).find? fun t => !l.txns.any fun x => x.tag == t

/-- A tag is to be had for an engine (R127, R160). -/
def tagFree (l : LaceBlk) (h : TagHolder) : Bool :=
  decide (l.txns.length < 8192) &&
    (h != .spill || decide ((l.txns.filter fun x => x.holder == .spill).length < 4096))

/-- The path of a collective's transaction: the direct lane at version 2.0 or later, a spread path while it is
down (R152, R157, R159). -/
def collPath (s : State) (t : Nat) : Option (Nat × Bool) :=
  match firstActive s (minimalLanes s false t) with
  | some n => if laneRelays s n then some (n, false) else none
  | none => spreadFrom s false t 1

/-- The lane of a transaction, 128 when no path is left, and whether by a spread path: spill spreads by the
transaction's number, collectives use direct lanes, LACE descriptors the minimal path (R150, R152, R159). -/
def pathOf (s : State) (x : Txn) : Nat × Bool :=
  let p := if x.holder = .spill then
             spreadFrom s x.sled x.target
               (if x.target / 64 == s.lace.rack && !x.sled then x.number % 63 + 1 else x.number % 64)
           else if x.holder = .collective then collPath s x.target
           else minimalPath s x.sled x.target
  p.getD (128, false)

/-- A transaction with a tag is issued, the tag peaks kept (R138, R160). -/
def issueTxn (x : Txn) (tag : Nat) (s : State) : State :=
  let p := pathOf s x
  let t := s.onLace fun l =>
    { l with txns := l.txns ++ [{ x with tag := tag, gen := genOf l tag, lane := p.1, spread := p.2 }]
             tagsPeak := max l.tagsPeak (l.txns.length + 1) }
  t.onMem fun m => { m with tagsPeak := max m.tagsPeak (spillTags t) }

/-- One waiting transaction goes out or goes on waiting. -/
def issueStep (s : State) (x : Txn) : State :=
  if tagFree s.lace x.holder then
    match freeTag s.lace with
    | some tag => issueTxn x tag s
    | none => s.onLace fun l => { l with waiting := l.waiting ++ [x] }
  else s.onLace fun l => { l with waiting := l.waiting ++ [x] }

/-- The waiting transactions go out in order while tags are free. FREE VALUE: for how many cycles an engine
that finds none stalls (R160, notes/assumptions/73). -/
def issueWaiting (s : State) : State :=
  let t := s.lace.waiting.foldl issueStep (s.onLace fun l => { l with waiting := [] })
  if t.lace.txns.length < 8192 ∨ t.lace.waiting = [] then t
  else { t with free := t.free + 1 }.onLace fun l =>
         { l with tagStall := satAdd 0xFFFFFFFF l.tagStall (Config.stallCycles t.free) }

/-- Transactions of a descriptor are handed to the link in order. -/
def issueAll (l : List Txn) (s : State) : State :=
  issueWaiting (s.onLace fun b => { b with waiting := b.waiting ++ l })

/-! ## Data of a transaction -/

/-- Bytes with their poisoned units stored where a transaction's data go. -/
def writePlace (p : LacePlace) (l : List Byte) (bad : List Nat) (s : State) : State :=
  match p with
  | .hbm h a => stackWrite h a l bad s
  | .sram cl core a =>
    match logicalKey s cl core with
    | some k => sramFill k a l bad s
    | none => s

/-- n bytes of a place and their poisoned units. -/
def readPlace (s : State) (p : LacePlace) (n : Nat) : List Byte × List Nat :=
  match p with
  | .hbm h a => (stackRead s h a n, stackBad s h a n)
  | .sram cl core a =>
    match logicalKey s cl core with
    | some k => (sramRead s k a n, sramBadUnits s k a n)
    | none => (List.replicate n 0, [])

/-- The 32-byte units of n bytes. -/
def unitsOf (n : Nat) : List Nat := List.range ((n + 31) / 32)

/-- A place's 32-byte units poisoned, their data unchanged. -/
def poisonPlace (p : LacePlace) (n : Nat) (s : State) : State := writePlace p (readPlace s p n).1 (unitsOf n) s

/-- A place a number of bytes further on. -/
def LacePlace.plus : LacePlace → Nat → LacePlace
  | .hbm h a, n => .hbm h (a + n)
  | .sram cl core a, n => .sram cl core (a + n)

/-! ## Completion (R129, R161 to R163) -/

/-- A transaction leaves its tag. -/
def dropTxn (x : Txn) (s : State) : State := s.onLace fun l => { l with txns := l.txns.filter fun y => y.tag != x.tag }

/-- TARGET of R126 for a transaction. -/
def targetCode (x : Txn) : Nat := x.target + 2048 * bn x.sled

/-- A transaction completes without its reply: the tag's generation goes on, a read's destination is
poisoned, a spill is recorded (R129, R161). -/
def cancelTxn (x : Txn) (s : State) : State :=
  let s1 := (dropTxn x s).onLace fun l => { l with gens := sput l.gens x.tag ((genOf l x.tag + 1) % 8) }
  let s2 := s1.whenB (!x.write) (poisonPlace x.place x.len)
  s2.whenB (x.holder == .spill) fun t =>
    raise Ev.spillTimeout [(2, targetCode x), (1, x.window), (8, x.offset)]
      (t.onMem fun m => { m with event := setBit m.event 5 })

/-- A transaction's timeout (R161). -/
def timeoutTxn (x : Txn) (s : State) : State :=
  issueWaiting (raise Ev.laceTimeout [(2, targetCode x), (1, x.lane)] (laceEvent 7 (cancelTxn x s)))

/-- An accepted reply (R129, R162, R164). -/
def acceptReply (x : Txn) (b : ReplyBody) (s : State) : State :=
  let t := dropTxn x s
  match b with
  | .ok data bad =>
    let t := t.whenB (x.holder == .spill && !x.write) (poisonUsed bad.length)
    issueWaiting (if x.write then t else writePlace x.place (padTo x.len data) (bad.filter (· < (x.len + 31) / 32)) t)
  | .remoteError =>
    let t1 := t.whenB (!x.write) (poisonPlace x.place x.len)
    issueWaiting
      (if x.holder = .spill then
         raise Ev.spillRemoteErr [] (t1.onMem fun m => { m with event := setBit m.event 6 })
       else laceEvent 9 t1)

/-- LACE_REPLY: of another generation than the tag's it is a late success; a second copy is discarded
uncounted (R162, R164). -/
def execLaceReply (tag : Fin 8192) (gen : Nat) (body : ReplyBody) (s : State) : Out :=
  live s
    (if !opticalOn s then s
     else if gen != genOf s.lace tag.val then
       laceEvent 6 (s.onLace fun l => { l with lateDrop := satAdd 0xFFFFFFFF l.lateDrop 1 })
     else
       match s.lace.txns.find? fun x => x.tag == tag.val with
       | some x => acceptReply x body s
       | none => s)

/-! ## Descriptors (R126, R127, R152, R165, R166) -/

/-- The transactions of n bytes: at most 512 each, in order. -/
def chunks (n : Nat) (f : Nat → Nat → Txn) : List Txn :=
  (List.range ((n + 511) / 512)).map fun i => f i (min 512 (n - 512 * i))

/-- The requests that a transfer makes of its local side, when that is a stack. -/
def countPlace (read : Bool) (p : LacePlace) (n : Nat) (s : State) : State :=
  match p with
  | .hbm h a => countRequests read h a n s
  | .sram _ _ _ => s

/-- LACE_DESCRIPTOR. -/
def runLace (d : List Word) (s : State) : State :=
  let w2 := wd d 2
  let w5 := wd d 5
  let w6 := wd d 6
  let place : LacePlace := if bitOf w2 30 then .sram (fld w6 8 6) (fld w6 0 6) (fld (wd d 1) 0 19)
                           else .hbm (fld w2 16 3) (addr48 (wd d 1) (fld w2 0 16))
  let remote : LacePlace := if bitOf w2 29 then .sram (fld w6 24 6) (fld w6 16 6) (fld (wd d 4) 0 19)
                            else .hbm (fld w5 27 3) (addr48 (wd d 4) (fld w5 0 16))
  let n := (wd d 3).toNat
  issueAll (chunks n fun i n =>
    { holder := .descriptor, target := fld w5 16 11, sled := false, write := !bitOf w2 31,
      remote := some (remote.plus (512 * i)), len := n, place := place.plus (512 * i), number := i,
      desc := chainOff s (laceHere ((firstEyelet s (fld w5 16 11)).getD 16)) 0 })
    (countPlace (!bitOf w2 31) place n s)

/-- LACE_DESCRIPTOR: legal in the slot of the Eyelet that its path begins on. -/
def execLaceDescriptor (d : List Word) (s : State) : Out :=
  live s
    (if frameRuns s && envOk 4 d &&
        (badLace (runReach s) s ((firstEyelet s (fld (wd d 5) 16 11)).getD 16) d).isNone
     then runDue (laceHere ((firstEyelet s (fld (wd d 5) 16 11)).getD 16)) 0 d (runLace d) s else s)

/-- A SPILL descriptor's transactions. -/
def runSpill (d : List Word) (s : State) : State :=
  let w2 := wd d 2
  let w5 := wd d 5
  let h := fld w2 16 3
  let a := addr48 (wd d 1) (fld w2 0 16)
  let n := (wd d 3).toNat
  let off := addr48 (wd d 4) (fld w5 0 16)
  issueAll (chunks n fun i n =>
    { holder := .spill, target := fld w5 16 11, sled := bitOf w5 27, write := bitOf w2 19,
      window := fld w5 28 4, offset := off + 512 * i, len := n, place := .hbm h (a + 512 * i), number := i,
      desc := chainOff s spillHere 0 })
    ((countRequests (bitOf w2 19) h a n s).whenB (bitOf w2 19) fun t => poisonUsed (stackBad t h a n).length t)

/-- SPILL_DESCRIPTOR. -/
def execSpillDescriptor (d : List Word) (s : State) : Out :=
  live s (if frameRuns s && envOk 6 d && (badSpill (runReach s) d).isNone then runDue spillHere 0 d (runSpill d) s else s)

/-! ## Incoming requests (R125, R126, R164, R166) -/

/-- The reply to a request goes out. -/
def replyTo (q : LaceReq) (b : ReplyBody) (s : State) : State :=
  s.onLace fun l => { l with replyOut := l.replyOut ++ [(q.source, q.tag, q.gen, b)] }

/-- Where a request's bytes lie here; none for an access that R129 and R164 answer with a remote error. -/
def requestPlace (s : State) (q : LaceReq) : Option LacePlace :=
  match q.window with
  | some w =>
    let x := vget s.mem.wins w {}
    if x.valid && decide (q.addr + q.len ≤ x.size * 0x4000000) && (stackOf s x.stack).st == .inService then
      some (.hbm x.stack (x.base * 0x4000000 + q.addr))
    else none
  | none =>
    if q.sram then
      (if decide (q.addr + q.len ≤ 0x60000) && (logicalKey s q.cluster q.core).isSome then
         some (.sram q.cluster q.core q.addr)
       else none)
    else if decide (q.addr + q.len ≤ stackBytes) && lastRange s q.stack q.addr q.len &&
        (stackOf s q.stack).st == .inService then some (.hbm q.stack q.addr)
    else none

/-- A request is served. -/
def serveRequest (q : LaceReq) (s : State) : State :=
  match requestPlace s q with
  | none => replyTo q .remoteError s
  | some p =>
    let s1 := countPlace (!q.write) p q.len s
    if q.write then replyTo q (.ok [] []) (writePlace p (padTo q.len q.data) (q.poison.filter (· < (q.len + 31) / 32)) s1)
    else
      let r := readPlace s1 p q.len
      replyTo q (.ok r.1 r.2) s1

/-- A request is a second copy: it was sent again, and one of its source, tag and generation was taken (R159).
DEDUCED: a request that was not sent again begins a new transaction of its tag (notes/assumptions/121). -/
def secondCopy (l : LaceBlk) (q : LaceReq) : Bool := q.resent && sget l.taken (8192 * q.source + q.tag) == some q.gen

/-- A descriptor of a source, and the number of its next transaction to commit (R166). -/
def orderKey (source desc : Nat) : Nat := 65536 * source + desc
def nextIn (l : LaceBlk) (q : LaceReq) : Bool :=
  match q.order with
  | none => true
  | some (d, n) => n == 0 || sget l.nextNo (orderKey q.source d) == some n

/-- A request whose turn it is commits, and the next number of its descriptor may follow. -/
def commitRequest (q : LaceReq) (s : State) : State :=
  match q.order with
  | none => serveRequest q s
  | some (d, n) => (serveRequest q s).onLace fun l => { l with nextNo := sput l.nextNo (orderKey q.source d) (n + 1) }

/-- Held requests whose turn has come commit. -/
def commitHeld : Nat → State → State
  | 0, s => s
  | fuel + 1, s =>
    match s.lace.held.find? (nextIn s.lace) with
    | none => s
    | some q => commitHeld fuel (commitRequest q (s.onLace fun l => { l with held := l.held.erase q }))

/-- A request is taken: the transactions of one descriptor commit in issue order, one that comes early waits
(R166). -/
def takeRequest (q : LaceReq) (s : State) : State :=
  let t := s.onLace fun l => { l with taken := sput l.taken (8192 * q.source + q.tag) q.gen, replyOut := [] }
  if nextIn t.lace q then commitHeld t.lace.held.length (commitRequest q t)
  else t.onLace fun l => { l with held := l.held ++ [q] }

/-- LACE_REQUEST_RECEIVE: in S2 and S3 nothing answers; a second copy is discarded (R125, R159, R164). -/
def execLaceRequestReceive (q : LaceReq) (s : State) : Out :=
  live s (if inS0S1 s && computeOn s && opticalOn s && !secondCopy s.lace q then takeRequest q s else s)

/-- The lane by which a relay passes traffic on: the next hop of its path, at version 2.0 or later (R150, R157). -/
def relayLane (s : State) (sled : Bool) (t : Nat) : Option Nat :=
  (firstActive s (minimalLanes s sled t)).filter (laneRelays s)

/-- RELAY_FORWARD: the relay passes traffic on without touching memory (R150). DEDUCED: traffic for which it has no
lane ends here, and its issuer's timeout (R161) completes it (notes/assumptions/149). -/
def execRelayForward (target : Nat) (sled : Bool) (lane : Fin 128) (s : State) : Out :=
  live s
    (if inS0S1 s && computeOn s && laneRelays s lane.val then
       s.onLace fun l => { l with relayOut := (relayLane s sled target).map fun n => (target, sled, n) }
     else s)

/-- The forwarding entry of a job (R173). -/
def fwdOf (l : LaceBlk) (job : Nat) : Option JobFwd := l.fwds.find? fun f => f.job == job

/-- A JOIN goes out toward the leader (R173). -/
def sendJoin (job leader member : Nat) (s : State) : State :=
  match symbolLane s (upLane s leader) with
  | some n => s.onLace fun l => { l with joinOut := l.joinOut ++ [(job, leader, member, n)] }
  | none => s

/-- JOIN: the lane leads to a member of the job, and the JOIN goes on toward the leader; a ninth job is refused
(R173). DESIGN CHOICE: a JOIN names the leader and the member beside the job; what a later JOIN of the job brings
adds to the entry, and a reset of Lace ends it (notes/assumptions/164). -/
def execJoin (job leader member : Nat) (lane : Fin 128) (s : State) : Out :=
  live s
    (let j := job % 256
     let up (t : State) : State := if leader = ownId s then t else sendJoin j leader member t
     if !inS0S1 s || !computeOn s || !laneActive s lane.val then s
     else if (fwdOf s.lace j).isSome then
       up (s.onLace fun l => { l with fwds := l.fwds.map fun f =>
         if f.job = j then { f with leader := leader, members := addSorted f.members member
                                    lanes := addSorted f.lanes lane.val } else f })
     else if s.lace.fwds.length < 8 then
       up (s.onLace fun l => { l with fwds := l.fwds ++ [{ job := j, leader := leader, members := [member]
                                                           lanes := [lane.val] }] })
     else raise Ev.laceJoinRefused [(1, j)] s)

/-! ## Lanes and light (R145, R153 to R159, R163, R481) -/

/-- LIGHT_LOSS: every lane fed by the input goes down and waits for light (R145). -/
def execLightLoss (input : Fin 2) (s : State) : Out :=
  live s
    (let lit := if input.val = 0 then s.lace.light0 else s.lace.light1
     if !lit || !opticalOn s then
       s.onLace fun l => if input.val = 0 then { l with light0 := false } else { l with light1 := false }
     else
       let s1 := (laceEvent input.val s).onLace fun l =>
         if input.val = 0 then { l with light0 := false } else { l with light1 := false }
       let fed := (List.range 128).filter fun n => decide (laneLs0 n = (input.val == 0)) &&
         ((laneOf s n).st == .active || (laneOf s n).st == .training || (laneOf s n).st == .down)
       let s2 := fed.foldl (fun s n => onLane n (fun x => { x with st := .waitLight, ver := 0 }) s) s1
       raise Ev.laceLightLoss [(1, input.val)] (fed.foldl (fun s n => rerouteLane n s) s2))

/-- LIGHT_RESTORED: every line of the input has stayed up for 100 ms; the lanes that wait train (R145). -/
def execLightRestored (input : Fin 2) (s : State) : Out :=
  live s
    (let s1 := s.onLace fun l => if input.val = 0 then { l with light0 := true } else { l with light1 := true }
     let fed := (List.range 128).filter fun n =>
       decide (laneLs0 n = (input.val == 0)) && (laneOf s n).st == .waitLight
     fed.foldl (fun s n => laneStart (laneOf s n).wantFull n s) s1)

/-- Training fails with a FAIL code (R153). -/
def trainFail (n code : Nat) (s : State) : State :=
  raise Ev.laceTrainFail [(1, n), (1, code)]
    (laceEvent 2 (onLane n (fun x => { x with st := .failed, fail := code, ver := 0 }) s))

/-- The highest version that both sides accept (R156). -/
def versionFor (s : State) (high low : Nat) : Option Nat :=
  [3, 2, 1].find? fun v => decide (v ≤ s.lace.maxVer ∧ v ≤ high ∧ low ≤ v)

/-- Steps 4 to 6 of training (R153 to R156): what the capability exchange gave stands whatever it leads to. -/
def trainPeer (n : Nat) (sled : Bool) (id high low access delay setPoint : Nat) (s0 : State) : State :=
  let s := onLane n (fun x => { x with peerSled := sled, peer := id, accessNs := if sled then access else 0 }) s0
  if lanePeer s n ≠ some (sled, id) then
    trainFail n 5 (raise Ev.laceMiswire [(1, n), (2, id)] (laceEvent 3 s))
  else
    match versionFor s high low with
    | none => trainFail n 4 (raise Ev.laceVerFail [(1, n)] (laceEvent 4 s))
    | some v =>
      onLane n (fun x => { x with st := .active, ver := v, fail := 0, delay := delay, replay := none
                                  record := some (setPoint, delay, v), fast := false }) s

/-- LANE_TRAINING_DONE: a fast training that fails at step 2 or 3 goes on in full (R154). -/
def execLaneTrainingDone (lane : Fin 128) (res : TrainResult) (s : State) : Out :=
  live s
    (let x := laneOf s lane.val
     let full := onLane lane.val (fun x => { x with fast := false, st := .training }) s
     if x.st != .training && x.st != .down then s
     else
       match res with
       | .light => trainFail lane.val 1 s
       | .ring => if x.fast then full else trainFail lane.val 2 s
       | .symbol => if x.fast then full else trainFail lane.val 3 s
       | .peer sled id high low access delay sp => trainPeer lane.val sled id high low access delay sp s)

/-- A lane goes down as R159 states. -/
def laneLost (n : Nat) (s : State) : State :=
  if laneActive s n then raise Ev.laceLaneDown [(1, n)] (laceEvent 5 (laneDown n 6 s)) else s

/-- The replays of a flit so far (R158). -/
def replaysOf (x : Lane) (seq : Nat) : Nat :=
  match x.replay with
  | some (q, n) => if q = seq then n else 0
  | none => 0

/-- FLIT_REPLAY: at most 8 replays of a flit, all within 2 µs of its first transmission; beyond them the budget is
exhausted (R158, R159). -/
def execFlitReplay (lane : Fin 128) (seq : BitVec 12) (age : Nat) (s : State) : Out :=
  live s
    (let n := replaysOf (laneOf s lane.val) seq.toNat
     if !laneActive s lane.val then s
     else if n < 8 ∧ age ≤ 2000 then
       (onLane lane.val (fun x => { x with replay := some (seq.toNat, n + 1) }) s).onLace fun l =>
         { l with replayCnt := satAdd 0xFFFFFFFF l.replayCnt 1 }
     else laneLost lane.val s)

/-- REPLAY_EXHAUST (R159). -/
def execReplayExhaust (lane : Fin 128) (s : State) : Out := live s (laneLost lane.val s)

/-- LOSS_OF_SIGNAL: a peer that lost power without PEER_RESET (R163). -/
def execLossOfSignal (lane : Fin 128) (s : State) : Out := live s (laneLost lane.val s)

/-- The lanes toward a peer. -/
def lanesTo (s : State) (sled : Bool) (id : Nat) : List Nat :=
  (List.range 128).filter fun n => lanePeer s n == some (sled, id)

/-- PEER_RESET_RECEIVE: every transaction to the peer completes with the effects of R161, and its lanes train again
(R163). What was relayed through it completes by timeout. -/
def execPeerResetReceive (peer : Nat) (s : State) : Out :=
  live s
    (let sled := decide (2048 ≤ peer)
     let id := peer % 2048
     if !opticalOn s then s
     else
       let mine := s.lace.txns.filter fun x => x.target == id && x.sled == sled
       let s1 := mine.foldl (fun s x => timeoutTxn x s) s
       lanesStart false (lanesTo s sled id) (raise Ev.lacePeerReset [(2, peer % 4096)] (laceEvent 8 s1)))

/-- RETIRE_SYMBOL_RECEIVE: the matching lane is retired until a full training or the next power-up
(R481). -/
def execRetireSymbolReceive (lane : Fin 128) (s : State) : Out :=
  live s
    (if laneActive s lane.val then
       rerouteLane lane.val (onLane lane.val (fun x => { x with st := .retired, ver := 0, peerRetired := true }) s)
     else s)

/-! ## Opcodes (R184, R481) -/

/-- Active lanes in a range. -/
def activeIn (s : State) (lo hi : Nat) : Nat :=
  ((List.range 128).filter fun n => decide (lo ≤ n ∧ n < hi) && laneActive s n).length

/-- LACE_STATUS. -/
def execLaceStatus (r : Req) (s : State) : Out :=
  opcode 0x500 (fun _ s =>
    if computeOff s then (s, some (7, []))
    else
      (s, some (0, [regLaceId s.lace, regLaceCtl s.lace,
                    mkW [(16, activeIn s 96 127), (0, activeIn s 0 95)], s.lace.event]))) r s

/-- LACE_ID_SET: the identity is stored, and every lane is dropped and trained again. -/
def execLaceIdSet (r : Req) (s : State) : Out :=
  opcode 0x501 (fun e s =>
    let w := wd e.words 0 &&& 0x7FF#32
    if computeOff s then (s, some (7, []))
    else if lastBusy s then (s, some (6, [w]))
    else
      (lanesStart false (List.range 128)
        ((keepId true (keepId false s)).onLace fun l => { l with idValid := true, rack := fld w 6 5, slot := fld w 0 6 }),
       some (0, [w]))) r s

/-- The lanes of an Eyelet mask and a wavelength mask. -/
def maskLanes (eye wave : Nat) : List Nat := (List.range 128).filter fun n => eye.testBit (n / 8) && wave.testBit (n % 8)

/-- LACE_TRAIN. -/
def execLaceTrain (r : Req) (s : State) : Out :=
  opcode 0x502 (fun e s =>
    let m := fld (wd e.words 0) 0 16
    let f := bitOf (wd e.words 1) 0
    let ws := [w32 m, w32 (bn f)]
    if computeOff s then (s, some (7, []))
    else if lastBusy s then (s, some (6, ws))
    else (lanesStart f (maskLanes m 0xFF) s, some (0, ws))) r s

/-- LACE_CONFIG: written to LACE_CTL. -/
def execLaceConfig (r : Req) (s : State) : Out :=
  opcode 0x503 (fun e s =>
    let l := setLaceCtl (wd e.words 0) s.lace
    if computeOff s then (s, some (7, []))
    else (s.onLace fun _ => l, some (0, [regLaceCtl l]))) r s

/-- A lane is retired: dark, its traffic by other paths, recorded and logged (R481). -/
def retireLane (n : Nat) (s : State) : State :=
  if s.lace.retired.getLsbD n then s
  else
    let s1 := repairWrite (s.onLace fun l => { l with retired := l.retired ||| (1#128 <<< n) })
    raise Ev.laceLaneRetired [(1, n)] (rerouteLane n (onLane n (fun x => { x with st := .retired, ver := 0 }) s1))

/-- A lane is restored: out of the mask, trained in full, logged (R481). -/
def restoreLane (n : Nat) (s : State) : State :=
  if s.lace.retired.getLsbD n then
    let s1 := repairWrite (s.onLace fun l => { l with retired := l.retired &&& ~~~(1#128 <<< n) })
    raise Ev.laceLaneRestored [(1, n)] (laneStart true n s1)
  else s

/-- Number of retired lanes. -/
def retiredCount (s : State) : Nat := ((List.range 128).filter fun n => s.lace.retired.getLsbD n).length

/-- LACE_RETIRE. -/
def execLaceRetire (r : Req) (s : State) : Out :=
  opcode 0x510 (fun e s =>
    let w1 := wd e.words 0 &&& 0x1FFFF#32
    let w2 := wd e.words 1 &&& 0xFF#32
    let ls := maskLanes (fld w1 0 16) (fld w2 0 8)
    let ans (st : Nat) (t : State) : State × Answer := (t, some (st, [w1, w2, w32 (retiredCount t)]))
    if computeOff s then (s, some (7, []))
    else if ls.any (laneDark s) then ans 6 s
    else if bitOf w1 16 then ans 0 (ls.foldl (fun s n => restoreLane n s) s)
    else ans 0 (ls.foldl (fun s n => retireLane n s) s)) r s

end Sys2Proof.Machine
end

