-- ==== Sys2Proof/WellFormed.lean ====
section
/-! DEFINITION. Well-formed commands: the operands that a command can carry by the spec's formats. Fields that
their types bound already need no check. -/

namespace Sys2Proof

/-- A packet: LEN has eight bits (R204). -/
def Req.wf (r : Req) : Bool := decide (r.words.length < 256)

/-- Rails named by `SMBALERT#`, each once (R260). -/
def railsWf (l : List (Fin 9)) : Bool := decide (l.Nodup)

/-- A marker symbol's fields: F, the low half of I, PERIOD, the low byte of JOB_ID and ACC (R174). -/
def markerWf (k : Marker) : Bool :=
  decide (k.f < 65536 ∧ k.pass < 65536 ∧ k.period < 4 ∧ k.job < 256 ∧ k.acc < 0x1000000)

/-- Poisoned 32-byte units of so many bytes: each once, in order (R113). -/
def unitsWf (n : Nat) (l : List Nat) : Bool := l.all (fun u => decide (32 * u < n)) && decide (l.Nodup)

/-- The bytes that one member sends to another: a slice, or of an ALL_GATHER the whole input (R167). -/
def collSlice (op bytes size : Nat) : Nat := if op = 2 then bytes else bytes / size

/-- A contribution to a collective: its fields, and the bytes that it states (R171). -/
def contributionWf (c : Contribution) : Bool :=
  decide (c.rank < 2048 ∧ c.dest < 2048 ∧ c.job < 256 ∧ c.f < 65536) &&
  decide (c.data.length = collSlice c.op c.bytes c.size) && unitsWf c.data.length c.poison

/-- A training result: identity, versions and ACCESS_NS in their fields (R147, R149, R155, R183). -/
def trainWf : TrainResult → Bool
  | .light => true
  | .ring => true
  | .symbol => true
  | .peer _ identity high low access _ setPoint =>
    decide (identity < 2048 ∧ low ≤ high ∧ access ≤ 4095 ∧ setPoint < 65536)

/-- What a Lace timeout names (R161, R171). -/
def waitWf : LaceWait → Bool
  | .tag _ => true
  | .contribution _ rank _ => decide (rank < 2048)

/-- A reply's body (R113, R162). -/
def bodyWf : ReplyBody → Bool
  | .ok data poison => unitsWf data.length poison
  | .remoteError => true

/-- An incoming Lace request (R125, R126, R164): a write carries the bytes that it states. -/
def laceReqWf (q : LaceReq) : Bool :=
  decide (q.source < 2048 ∧ q.tag < 8192 ∧ q.gen < 8 ∧ q.stack < 8 ∧ q.cluster < 64 ∧ q.core < 64) &&
  (!q.write || q.data.length == q.len) && (q.window.all fun w => decide (w < 16)) && unitsWf q.data.length q.poison &&
  (q.order.all fun o => decide (o.1 < 65536))

/-- A control tick's inputs: up to four samples of each of the 80 sampled channels, a VDD_CORE power of each of the four dies and 7
levels (R298, R375, R529). -/
def tickWf (x : TickIn) : Bool :=
  x.samples.length == 80 && (x.samples.all fun l => decide (l.length ≤ 4)) && x.coreMeas.length == 4 &&
  x.welt.length == 7

/-- The data lengths of a row-bus frame (R402). -/
def canLengths : List Nat := [0, 1, 2, 3, 4, 5, 6, 7, 8, 12, 16, 20, 24, 32, 48, 64]

/-- A row-bus frame: its identifier and its data by DLC (R402). -/
def canWf (f : CanFrame) : Bool :=
  decide (f.ident < if f.extended then 2 ^ 29 else 2 ^ 11) && canLengths[f.dlc]? == some f.data.length

/-- A STEWARD message's fields (R436). -/
def stewWf (g : StewMsg) : Bool :=
  decide (g.type < 5 ∧ g.schema < 4 ∧ g.term < 65536 ∧ g.holder < 64 ∧ g.sender < 64 ∧ g.reason < 256)

/-- A command is well formed. -/
def Instr.wf : Instr → Bool
  | .getIdentity r => r.wf
  | .getVersions r => r.wf
  | .cmdAbort r => r.wf
  | .cmdNop r => r.wf
  | .pwrStatus r => r.wf
  | .pwrStateSet r => r.wf
  | .pwrCapSet r => r.wf
  | .pwrRailStatus r => r.wf
  | .resetDomain r => r.wf
  | .coolStatus r => r.wf
  | .coolForecastGet r => r.wf
  | .toecapSet r => r.wf
  | .loopConfig r => r.wf
  | .loopMode r => r.wf
  | .loopCoeffSet r => r.wf
  | .loopStatus r => r.wf
  | .valveCmd r => r.wf
  | .pwmSet r => r.wf
  | .pinFuncSet r => r.wf
  | .weltStatus r => r.wf
  | .weltArm r => r.wf
  | .rowConfig r => r.wf
  | .rowStatus r => r.wf
  | .stewardStatus r => r.wf
  | .stewardConfig r => r.wf
  | .lastLoad r => r.wf
  | .lastCommit r => r.wf
  | .lastJobSet r => r.wf
  | .lastStart r => r.wf
  | .lastSwitch r => r.wf
  | .lastPause r => r.wf
  | .lastResume r => r.wf
  | .lastUnload r => r.wf
  | .lastStatus r => r.wf
  | .memStatus r => r.wf
  | .memScrubSet r => r.wf
  | .memPoolExport r => r.wf
  | .coreSwap r => r.wf
  | .hbmRetire r => r.wf
  | .repairStatus r => r.wf
  | .laceStatus r => r.wf
  | .laceIdSet r => r.wf
  | .laceTrain r => r.wf
  | .laceConfig r => r.wf
  | .laceRetire r => r.wf
  | .logStatus r => r.wf
  | .logRead r => r.wf
  | .timeGet r => r.wf
  | .timeSet r => r.wf
  | .fwLoad r => r.wf
  | .fwCommit r => r.wf
  | .fwActivate r => r.wf
  | .fwStatus r => r.wf
  | .secAttest r => r.wf
  | .secLifecycleSet r => r.wf
  | .secDebugUnlock r => r.wf
  | .secKeyStatus r => r.wf
  | .coreSelftest r => r.wf
  | .sensorCal r => r.wf
  | .calTableLoad r => r.wf
  | .loopTest r => r.wf
  | .captureRead r => r.wf
  | .valveTest r => r.wf
  | .cmdReqWrite _ _ => true
  | .cmdDataInWrite _ _ => true
  | .cmdDataOutRead _ => true
  | .cmdDoneRelease _ _ _ => true
  | .cmdPeerTimeout _ _ => true
  | .trayDataWaitTimeout => true
  | .trayWriteBufferDrain => true
  | .traySlowReadComplete => true
  | .trayLowHalfRead _ => true
  | .trayLowHalfWrite _ _ => true
  | .trayPortReset _ => true
  | .perstAssert => true
  | .perstDeassert => true
  | .controlFlr => true
  | .dataFlr => true
  | .apertureAccess write off len data => decide (off < 0x8000000000 ∧ len ≤ 4096) && (!write || data.length == len)
  | .registerWrite _ off _ _ => decide (off < 0x1001000) && off % 4 == 0
  | .mbxDataWrite _ _ _ _ _ => true
  | .mbxDoorbell _ _ => true
  | .mbxAck _ _ _ => true
  | .trayDoorbellAnswer => true
  | .lockRead _ _ => true
  | .lockRelease _ _ _ => true
  | .lockStatRead _ _ => true
  | .mpReset => true
  | .securityProcessorReset => true
  | .islandProcessorReset => true
  | .islandProcessorRelease => true
  | .debugTapReset => true
  | .bridgeRetryReissue => true
  | .islandPowerUp => true
  | .vIslLoss => true
  | .securityBoot => true
  | .pwrBrakeAssert => true
  | .pwrBrakeDeassert => true
  | .pgRise _ => true
  | .pgTimeout _ => true
  | .railDown _ => true
  | .pgStuck _ => true
  | .railFailure _ => true
  | .powerUpComplete => true
  | .hbmTrainDone _ _ temp => decide (temp < 256)
  | .smbalert rails => !rails.isEmpty && railsWf rails
  | .smbalertAraTimeout rails => railsWf rails
  | .pmbusPoll l => l.length == 9 && l.all fun r => decide (r.1 < 65536 ∧ r.2 < 65536)
  | .clockChangeApply => true
  | .trayPowerUp => true
  | .trayClearLockout => true
  | .trayIslandOff => true
  | .startupCapLift => true
  | .throttleRise => true
  | .throttleFall => true
  | .pwrThrottleEscalate => true
  | .thermalLimitRelease => true
  | .shedLimitRise => true
  | .warmReached => true
  | .frameBoundary _ pkgW => decide (pkgW < 65536)
  | .lastSwitchFrame => true
  | .frameStrobe cycles => decide (cycles ≤ 5500)
  | .packageReady below => below.all fun x => decide (x.1 < 256)
  | .markerEmit waited => decide (waited < 0x1000000)
  | .frameMarkerReceive k _ residence => markerWf k && !k.shedFlag && decide (residence < 0x1000000)
  | .shedNotice => true
  | .shedNoticeReceive k _ residence => markerWf k && k.shedFlag && decide (residence < 0x1000000)
  | .frameFaultTimeout => true
  | .memberMarkerTimeout => true
  | .join job leader member _ => decide (job < 256 ∧ leader < 2048 ∧ member < 2048)
  | .matrixDescriptor _ _ d _ => d.length == 7
  | .add _ _ d => d.length == 7
  | .mul _ _ d => d.length == 7
  | .fma _ _ d => d.length == 7
  | .min _ _ d => d.length == 7
  | .max _ _ d => d.length == 7
  | .cvt _ _ d => d.length == 7
  | .encode _ _ d => d.length == 7
  | .rcp _ _ d => d.length == 7
  | .rsqrt _ _ d => d.length == 7
  | .exp2 _ _ d => d.length == 7
  | .log2 _ _ d => d.length == 7
  | .reduceAdd _ _ d => d.length == 7
  | .hbmDescriptor d => d.length == 6
  | .laceDescriptor d => d.length == 7
  | .spillDescriptor d => d.length == 6
  | .allReduce d => d.length == 8
  | .reduceScatter d => d.length == 8
  | .allGather d => d.length == 8
  | .allToAll d => d.length == 8
  | .collectiveContributionReceive c => contributionWf c
  | .hbmRereadComplete _ unit _ _ => decide (32 * unit < 48000000000)
  | .patrolScrub _ unit _ => decide (32 * unit < 48000000000)
  | .sramScrub _ _ addr _ => decide (addr < 0x60000) && addr % 8 == 0
  | .coreParity _ _ acc => !acc.isEmpty
  | .lightLoss _ => true
  | .lightRestored _ => true
  | .laneTrainingDone _ res => trainWf res
  | .flitReplay _ _ _ => true
  | .replayExhaust _ => true
  | .lossOfSignal _ => true
  | .laceTimeout w => waitWf w
  | .laceReply _ gen body => decide (gen < 8) && bodyWf body
  | .laceRequestReceive q => laceReqWf q
  | .relayForward target _ _ => decide (target < 2048)
  | .peerResetReceive peer => decide (peer < 4096)
  | .retireSymbolReceive _ => true
  | .controlTick x => tickWf x
  | .loopOutputApply => true
  | .testDone => true
  | .loopImplausible _ => true
  | .loopSaturated _ => true
  | .plausWindowEnd _ => true
  | .sensorFault _ => true
  | .sensorRecovered _ => true
  | .sensorDisagree _ => true
  | .flowPulse _ cycles => decide (0 < cycles)
  | .flowPulseTimeout _ => true
  | .calibrationComplete _ result _ _ => decide (result < 4)
  | .zoneEnergyPush _ _ => true
  | .forecastSend _ => true
  | .forecastStale => true
  | .toecapService _ _ => true
  | .toecapExpiry => true
  | .toecapRelease _ => true
  | .valvePeriodBoundary _ => true
  | .valveCommandEnd _ => true
  | .boostEnd _ _ _ => true
  | .peakEnd _ _ => true
  | .coilOvercurrent _ => true
  | .coilOpenLoad _ => true
  | .valveSupplyLow => true
  | .valveSupplyRestored => true
  | .pwmReload _ => true
  | .pwmDutyWrite _ _ _ => true
  | .tachEdge _ cycles => decide (0 < cycles)
  | .tachTimeout _ => true
  | .pumpStall _ => true
  | .leakTrip _ levels => levels.length == 7
  | .weltSenseFault _ => true
  | .weltSenseRecovered _ => true
  | .clearLeak _ => true
  | .clearTherm => true
  | .flowBalanceEvaluation _ _ => true
  | .valveTestStartSample _ => true
  | .valveTestResult _ => true
  | .rowFrameReceive _ f => canWf f
  | .rowFrameSent _ _ => true
  | .txAttemptFail _ _ => true
  | .busOffRecovery _ => true
  | .objectExpired _ _ => true
  | .objectStale _ _ => true
  | .objectPeriodicQueue _ _ => true
  | .objReq _ _ _ => true
  | .objCancel _ _ _ => true
  | .objLock _ _ _ => true
  | .objAck _ _ _ => true
  | .leakRepeat => true
  | .failsafeRepeat => true
  | .refQueue _ => true
  | .ref _ f => canWf f && f.data.length == 8
  | .rowTimeHoldover => true
  | .grant _ g => stewWf g
  | .request _ g => stewWf g
  | .release _ g => stewWf g
  | .taken _ g => stewWf g
  | .failsafe _ _ _ => true
  | .heartbeatLost _ => true
  | .refereeStart _ => true
  | .initialGrant _ => true
  | .latentFaultCheck _ => true
  | .takebackRequest _ => true
  | .takebackReleaseTimeout _ => true
  | .statePush => true
  | .state _ _ data => data.length == 48
  | .stewardStep => true
  | .limit _ _ entries => entries.length == 8 && entries.all fun e => decide (e < 65536)
  | .stewardCapLost => true
  | .islandRecordProgrammed => true
  | .openRecordClose => true
  | .islandPageEraseDone => true
  | .mainSectorEraseDone => true
  | .islandRecordCopy => true
  | .tokenAdd code => decide (code < 4096)
  | .timeLoRead _ _ => true
  | .fwActivationStart _ => true
  | .trialRunTimeout _ => true
  | .trialEnd _ => true
  | .nonceExpiry => true
  | .mpStart => true
  | .selftestComplete _ _ _ => true
  | .mainRecordProgrammed => true
  | .receiveError _ _ => true
  | .transmissionStart _ _ _ => true
  | .busIntegrationComplete _ => true
  | .rowTimeSlewEnd => true
  | .candidateEligible _ _ => true
  | .doubledRefresh _ temp => decide (temp < 256)

end Sys2Proof
end

