-- ==== Sys2Proof/Machine/Collective.lean ====
section
/-! DEFINITION. The collective engine: contributions, the reductions of R168 and R169, results with their
poison, mismatches, and the Lace timeout (R161, R167 to R171). -/

namespace Sys2Proof.Machine

/-! ## Combining elements (R168, R169) -/

/-- Bytes of an element type: LONG, FP32, bfloat16, RAW (R168). -/
def etypeBytes (t : Nat) : Nat :=
  match t with
  | 0 => 16
  | 1 => 4
  | 2 => 2
  | _ => 1

/-- One level of the tree of ranks: pairs (0, 1), (2, 3) and so on, an unpaired last one passed up
(R169). -/
def pairUp {α : Type} (f : α → α → α) : List α → List α
  | a :: b :: t => f a b :: pairUp f t
  | l => l

/-- The balanced tree over ranks, level by level. -/
def treeFold {α : Type} (f : α → α → α) (d : α) (l : List α) : α :=
  ((List.range (l.length + 1)).foldl (fun l _ => pairUp f l) l).headD d

/-- The sum of FP32 or bfloat16 contributions as a code: F48 in tree order, then written with RNE; Inf and
NaN by R51 (R169). -/
def sumFloat (fmt : Nat) (l : List FVal) : Nat :=
  let f := wbFmt fmt
  let pinf := l.any fun v => v.isInf && !v.neg
  let ninf := l.any fun v => v.isInf && v.neg
  if l.any FVal.isNan || (pinf && ninf) then (wbNan f).1
  else if pinf || ninf then (wbInf f 0 ninf).1
  else
    let v := decF48 (treeFold addF48 0 (l.map f48OfVal))
    if v.1 = 0 then 0 else (wbFin f 0 0 (decide (v.1 < 0)) v.1.natAbs v.2).1

/-- a lies below b, with −0 below +0 (R169). -/
def below (a b : FVal) : Bool := ltVal a b || (a.isZero && b.isZero && a.neg && !b.neg)

/-- MAX or MIN of contributions, each with its code: NaN when any is NaN (R169). -/
def extreme (isMax : Bool) (fmt : Nat) (l : List (Nat × FVal)) : Nat :=
  if l.any fun x => x.2.isNan then (wbNan (wbFmt fmt)).1
  else
    match l with
    | [] => 0
    | x :: t =>
      (t.foldl (fun a b => if (if isMax then below a.2 b.2 else below b.2 a.2) then b else a) x).1

/-- KIND of a long partial. -/
def partialKind (v : Nat) : Nat := v / 2 ^ 126 % 4

/-- LONG elements combined: integer addition, or F48 in tree order, and OR of the flags; different KINDs set
NAN (R168). DEDUCED: the rest of such a result is that of the first contribution's KIND
(notes/assumptions/84). -/
def sumLong (l : List Nat) : Nat :=
  let k := partialKind (l.headD 0)
  let flags := (l.foldl (fun a v => a ||| v) 0) / 2 ^ 120 % 64
  let flags := if l.all fun v => partialKind v == k then flags else flags ||| 32
  let flags := if k = 1 then flags / 8 * 8 else flags
  let sum := if k = 1 then (treeFold addF48 0 (l.map (BitVec.ofNat 59))).toNat
             else ((l.map (BitVec.ofNat 120)).foldl (· + ·) 0).toNat
  k * 2 ^ 126 + flags * 2 ^ 120 + sum

/-- One element of the reduction from the contributions' codes in rank order. -/
def combine (etype red : Nat) (l : List Nat) : Nat :=
  if etype = 0 then sumLong l
  else
    let fmt := etype - 1
    let vs := l.map (decElem fmt)
    if red = 0 then sumFloat fmt vs else extreme (red == 1) fmt (l.zip vs)

/-- The reduction of equally long inputs, element by element. -/
def reduceBytes (etype red n : Nat) (l : List (List Byte)) : List Byte :=
  let w := etypeBytes etype
  (List.range (n / w)).flatMap fun i =>
    leBytes w (combine etype red (l.map fun b => leNat ((b.drop (w * i)).take w)))

/-! ## Results (R167, R171) -/

/-- Bytes with their poisoned 32-byte units. -/
abbrev Part := List Byte × List Nat

/-- What came from a member, n bytes; every unit poisoned where it never arrived (R171). -/
def partOf (n : Nat) (l : List (Nat × Option Part)) (rank : Nat) : Part :=
  match l.find? fun p => p.1 == rank with
  | some (_, some x) => (padTo n x.1, x.2)
  | _ => (List.replicate n 0, unitsOf n)

/-- Slice q, n bytes long, of an input. -/
def slice (n q : Nat) (p : Part) : Part :=
  ((p.1.drop (n * q)).take n, (p.2.filter fun u => decide (n * q ≤ 32 * u ∧ 32 * u < n * q + n)).map fun u => u - n * q / 32)

/-- Parts of n bytes each, one after the other. -/
def concat (n : Nat) (l : List Part) : Part :=
  (l.flatMap fun p => p.1, (l.mapIdx fun q p => p.2.map fun u => u + q * n / 32).flatten)

/-- Bytes that a member of the collective sends to another (R167). -/
def Coll.part (c : Coll) : Nat := collSlice c.op c.bytes c.size

/-- This member's slice of the reduction (R167 to R169): a unit is poisoned where one of its contributions is. -/
def combined (c : Coll) : Part :=
  let ps := (List.range c.size).map (partOf c.part c.parts)
  (reduceBytes c.etype c.red c.part (ps.map fun p => p.1), (ps.flatMap fun p => p.2).eraseDups)

/-- The result at this member with its poisoned units (R167). -/
def collResult (c : Coll) : Part :=
  if c.op = 0 then concat c.part ((List.range c.size).map (partOf c.part c.gathered))
  else if c.op = 1 then combined c
  else concat c.part ((List.range c.size).map (partOf c.part c.parts))

/-- What this member gives its own part: a slice of its input, or of an ALL_GATHER the whole (R167). -/
def ownPart (c : Coll) (input : Part) : Part := if c.op = 2 then input else slice c.part c.rank input

/-! ## Transactions (R167, R171) -/

/-- The identity of the member of a rank (R167). -/
def Coll.member (c : Coll) (q : Nat) : Nat := c.base + q * c.stride

/-- Where this member sends what is for another one: to the member itself over the direct lane or, of a rack stage
before the spine stage, to the member of its own rack that shares the slot (R167). DEDUCED: without such a member,
to the member itself (notes/assumptions/83). -/
def collHop (s : State) (c : Coll) (q : Nat) : Nat :=
  let t := c.member q
  let via := 64 * s.lace.rack + t % 64
  if t / 64 = s.lace.rack then t
  else if (List.range c.size).any fun r => c.member r == via && r != c.rank then via
  else t

/-- The transactions that bring the part for rank q toward it. -/
def partTxns (s : State) (c : Coll) (q : Nat) : List Txn :=
  chunks c.part fun i n =>
    { holder := .collective, target := collHop s c q, sled := false, write := true, len := n,
      offset := 512 * i, place := c.dst, number := i, coll := c.index }

/-- The transactions to every other member, in rank order. -/
def collTxns (s : State) (c : Coll) : List Txn := ((List.range c.size).filter (· != c.rank)).flatMap (partTxns s c)

/-- A collective of an index changed. -/
def onColl (index : Nat) (f : Coll → Coll) (s : State) : State :=
  s.onLace fun l => { l with colls := l.colls.map fun c => if c.index = index then f c else c }

/-- ALL_REDUCE goes on from its first phase to the second when every contribution is in, or missing: the slice is
combined here and sent to every other member (R167). -/
def beginGather (s : State) (c : Coll) : State :=
  if c.op = 0 ∧ c.size ≤ c.parts.length ∧ (c.gathered.all fun p => p.1 != c.rank) then
    issueAll (collTxns s c) (onColl c.index (fun x => { x with gathered := x.gathered ++ [(x.rank, some (combined x))] }) s)
  else s

/-- A collective has all that its result takes. -/
def collDone (c : Coll) : Bool :=
  decide (c.size ≤ c.parts.length) && (c.op != 0 || decide (c.size ≤ c.gathered.length))

/-- Collectives whose contributions are all in, or missing, go on, write their results and end. -/
def finishColls (s : State) : State :=
  let t := s.lace.colls.foldl beginGather s
  t.lace.colls.foldl (fun s c =>
    if collDone c then
      let r := collResult c
      writePlace c.dst r.1 r.2 (s.onLace fun l => { l with colls := l.colls.filter fun x => x.index != c.index })
    else s) t

/-- A contribution's fields agree with the collective of the frame (R171). -/
def partFits (s : State) (c : Coll) (x : Contribution) : Bool :=
  x.job == s.last.jobId % 256 && x.f == s.last.f && x.op == c.op && x.etype == c.etype && x.red == c.red &&
    x.size == c.size && x.bytes == c.bytes

/-- A collective transaction that differs: rejected, logged, and the package faults (R171). -/
def collMismatch (s : State) : State := lastFault (raise Ev.laceCollMismatch [] (laceEvent 10 s))

/-- A part joins those of its phase; a second copy is discarded. -/
def addPart (n rank : Nat) (x : Option Part) (l : List (Nat × Option Part)) : List (Nat × Option Part) :=
  if rank < n ∧ l.all (fun p => p.1 != rank) then l ++ [(rank, x)] else l

/-- A part of a rank joins a collective, in its first or its second phase. -/
def joinColl (rank : Nat) (gather : Bool) (x : Option Part) (c : Coll) : Coll :=
  if gather then { c with gathered := addPart c.size rank x c.gathered }
  else { c with parts := addPart c.size rank x c.parts }

/-- A contribution is combined; one for another member goes on over the spine (R167). -/
def takePart (c : Coll) (x : Contribution) (s : State) : State :=
  if x.dest = c.rank then onColl c.index (joinColl x.rank x.gather (some (x.data, x.poison))) s
  else if x.dest < c.size then issueAll (partTxns s c x.dest) s
  else s

/-- A contribution arrives: to a collective under way, or before it has begun here. -/
def contribute (x : Contribution) (s : State) : State :=
  match s.lace.colls.find? fun c => c.index == x.index with
  | none => s.onLace fun l => { l with early := l.early ++ [x] }
  | some c => if partFits s c x then finishColls (takePart c x s) else collMismatch s

/-- COLLECTIVE_CONTRIBUTION_RECEIVE: JOB_ID and F differ at once from those of every descriptor of the frame (R171). -/
def execCollectiveContributionReceive (x : Contribution) (s : State) : Out :=
  live s
    (if frameRuns s && opticalOn s then
       if x.job = s.last.jobId % 256 ∧ x.f = s.last.f then contribute x s else collMismatch s
     else s)

/-! ## Descriptors (R167, R170) -/

/-- The collective of a descriptor, with this member's own part. -/
def collOf (s : State) (d : List Word) : Coll :=
  let w1 := wd d 1
  let w6 := wd d 6
  let w7 := wd d 7
  let base := fld w1 0 11
  let stride := fld (wd d 2) 0 11
  let n := (wd d 3).toNat
  let rank := collRank base stride (ownId s)
  let src : LacePlace := if bitOf w1 21 then .sram (fld w7 24 6) (fld w7 16 6) (fld (wd d 4) 0 19)
                         else .hbm (fld w1 17 3) (addr48 (wd d 4) (fld w6 0 16))
  let c : Coll :=
    { index := s.last.collIndex, op := fld w1 28 4, etype := fld w1 24 4, red := fld w1 22 2,
      size := fld (wd d 2) 20 12, bytes := n, base := base, stride := stride, rank := rank,
      dst := if bitOf w1 20 then .sram (fld w7 8 6) (fld w7 0 6) (fld (wd d 5) 0 19)
             else .hbm (fld w1 14 3) (addr48 (wd d 5) (fld w6 16 16))
      parts := [] }
  { c with parts := [(rank, some (ownPart c (readPlace s src n)))] }

/-- The contributions that came before the collective began here. -/
def takeEarly (c : Coll) (s : State) : State :=
  let mine := s.lace.early.filter fun x => x.index == c.index
  let t := s.onLace fun l => { l with early := l.early.filter fun x => x.index != c.index }
  if mine.all (partFits s c) then finishColls (mine.foldl (fun s x => takePart c x s) t) else collMismatch t

/-- A COLLECTIVE descriptor begins, the next of the frame (R171). -/
def runColl (d : List Word) (s : State) : State :=
  let c := collOf s d
  let t := (s.onLast fun l => { l with collIndex := l.collIndex + 1 }).onLace fun l => { l with colls := l.colls ++ [c] }
  takeEarly c (issueAll (collTxns s c) t)

/-- A COLLECTIVE descriptor of an OP runs. -/
def collective (op : Nat) (d : List Word) (s : State) : Out :=
  live s
    (if frameRuns s && envOk 5 d && (badColl (runReach s) s d).isNone && fld (wd d 1) 28 4 == op then
       runDue collHere 0 d (runColl d) s
     else s)

/-- ALL_REDUCE. -/
def execAllReduce (d : List Word) (s : State) : Out := collective 0 d s
/-- REDUCE_SCATTER. -/
def execReduceScatter (d : List Word) (s : State) : Out := collective 1 d s
/-- ALL_GATHER. -/
def execAllGather (d : List Word) (s : State) : Out := collective 2 d s
/-- ALL_TO_ALL. -/
def execAllToAll (d : List Word) (s : State) : Out := collective 3 d s

/-! ## The timeout (R161, R171) -/

/-- LACE_TIMEOUT: a transaction's, or that of the wait for a contribution, whose output units are then
poisoned. -/
def execLaceTimeout (w : LaceWait) (s : State) : Out :=
  live s
    (match w with
     | .tag t =>
       match s.lace.txns.find? fun x => x.tag == t.val with
       | some x => timeoutTxn x s
       | none => s
     | .contribution index rank gather => finishColls (onColl index (joinColl rank gather none) s))

end Sys2Proof.Machine
end

