-- ==== Sys2Proof/Machine/LastCheck.lean ====
section
/-! DEFINITION. The checks that LAST_COMMIT applies to an image, in their order, each with the word at which
it fails (R77 to R90, R478). RSV bits of an image are not judged. DEDUCED (notes/assumptions/91). -/

namespace Sys2Proof.Machine

/-- A check's failure: the reason of R90 and the word. -/
abbrev Reject := Option (Nat × Nat)

/-- The first failure. -/
def firstReject (l : List (Unit → Reject)) : Reject := l.findSome? fun f => f ()

/-- A check of a reason at a word. -/
def need (ok : Bool) (reason word : Nat) : Reject := if ok then none else some (reason, word)

/-! ## Header and sections (0x01 to 0x03; R77, R78, R87) -/

def checkHeader (img : List Word) : Reject :=
  firstReject [fun _ => need (wd img 0 == 0x4C415354#32) 1 0, fun _ => need (fld (wd img 1) 8 8 == 16) 1 1,
               fun _ => need (imgVersion img == 3 || imgVersion img == 4) 2 1]

/-- The word after the annotation table. -/
def annotEnd (img : List Word) : Nat := annotOff img + annotLen img * loopFrames img

def checkLayout (img : List Word) : Reject :=
  firstReject [fun _ => need ((wd img 2).toNat == img.length) 3 2, fun _ => need (slotOff img == 16) 3 10,
               fun _ => need (decide (1 ≤ slotCount img)) 3 11,
               fun _ => need (descOff img == 16 + 4 * slotCount img) 3 12,
               fun _ => need (decide (descOff img ≤ annotOff img)) 3 13,
               fun _ => if sigOff img = 0 then need (annotEnd img == img.length) 3 13
                        else need (sigOff img == annotEnd img && sigOff img + 26 == img.length) 3 14]

/-! ## Signature, lifecycle and job (0x04 to 0x06; R87, R92, R501) -/

/-- The words that an image's signature covers; all of an unsigned one. -/
def signedWords (img : List Word) : List Word := if sigOff img = 0 then img else img.take (sigOff img)

def checkSignature (s : State) (img : List Word) : Reject :=
  if sigOff img = 0 then none
  else need (sigBlockOk s 4 7 (signedWords img) (img.drop (sigOff img))) 4 (sigOff img)

/-- The image is unsigned and the lifecycle accepts it (R90, R501). -/
def checkLife (s : State) (img : List Word) : Reject := need (sigOff img != 0 || s.sec.life != .production) 5 14

def checkJob (s : State) (img : List Word) : Reject :=
  need (s.lace.idValid && fld (wd img 6) 16 11 == ownId s && imgMembers img == s.last.members) 6 6

/-! ## Slots (0x07; R79, R80) -/

/-- A slot's UNIT is in range for its KIND. -/
def unitOk (e : SlotE) : Bool :=
  if e.kind = 0 then decide (e.unit < 64) || e.unit == 0xFF
  else if e.kind = 1 then decide (e.unit < 6)
  else if e.kind = 2 then decide (e.unit < 16)
  else e.unit == 0

/-- Two entries' resources intersect (R80). -/
def sameResource (a b : SlotE) : Bool :=
  a.kind == b.kind &&
    (if a.kind = 0 then a.cluster == b.cluster && (a.unit == 0xFF || b.unit == 0xFF || a.unit == b.unit)
     else if a.kind ≤ 2 then a.unit == b.unit
     else true)

/-- Two entries conflict (R80). -/
def slotClash (a b : SlotE) : Bool :=
  sameResource a b && decide (a.first ≤ b.last ∧ b.first ≤ a.last) &&
    decide (a.start < b.start + b.len ∧ b.start < a.start + a.len)

/-- Slot i against the entries before it. -/
def checkSlot (img : List Word) (l : List SlotE) (i : Nat) (e : SlotE) : Reject :=
  let w := slotOff img + 4 * i
  firstReject [fun _ => need (decide (e.first ≤ e.last ∧ e.last ≤ imgLoopM1 img)) 7 w,
               fun _ => need (decide (e.kind ≤ 4 ∧ e.start + e.len ≤ 4096)) 7 (w + 1),
               fun _ => need (decide (e.cluster < 64) && unitOk e) 7 (w + 2),
               fun _ => need (!(l.take i).any fun x => slotClash x e) 7 w]

def checkSlots (img : List Word) : Reject :=
  let l := imgSlots img
  ((List.range l.length).zip l).findSome? fun x => checkSlot img l x.1 x.2

/-! ## Descriptors (0x08, 0x09; R81 to R84, R47) -/

/-- A walk along a chain: the descriptors visited, and the failure. -/
def walkChain (s : State) (img : List Word) (e : SlotE) : Nat → Nat → Nat → List Nat → Reject
  | 0, _, idx, _ => some (8, idx)
  | fuel + 1, off, idx, seen =>
    let a := descOff img + off
    let d := imgWords img a (kindWords (envKind (wd img a)))
    if seen.contains off || decide (annotOff img ≤ a) then some (8, idx)
    else if !envOk (envKind (wd d 0)) d || decide (kindWords (envKind (wd d 0)) = 0) ||
        kindSlot (envKind (wd d 0)) != e.kind || decide (annotOff img < a + d.length) then some (8, a)
    else
      match badDesc (commitReach s) s e.unit d with
      | some k => some (8, a + k)
      | none =>
        if envNext (wd d 0) = 0xFFFF then none
        else walkChain s img e fuel (envNext (wd d 0)) a (off :: seen)

def checkChains (s : State) (img : List Word) : Reject :=
  let l := imgSlots img
  ((List.range l.length).zip l).findSome? fun x =>
    walkChain s img x.2 65537 x.2.desc (slotOff img + 4 * x.1 + 3) []

/-- The descriptors of a chain that is legal, by their words in the image. -/
def chainAt (img : List Word) : Nat → Nat → List Nat
  | 0, _ => []
  | fuel + 1, off =>
    let a := descOff img + off
    a :: (if envNext (wd img a) = 0xFFFF then [] else chainAt img fuel (envNext (wd img a)))

/-- Every MATRIX descriptor's operand pair, the lowest word first. -/
def checkPairs (img : List Word) : Reject :=
  let as := ((imgSlots img).flatMap fun e => chainAt img 65537 e.desc).foldl addSorted []
  as.findSome? fun a =>
    if envKind (wd img a) = 1 then
      need (pairOk (ctrlFmtA (wd img (a + 1))) (ctrlFmtB (wd img (a + 1)))) 9 (a + 1)
    else none

/-! ## Served cores (0x0A; R33, R478) -/

/-- A logical core is served once every waiting change is made (R478). -/
def servedAfter (s : State) (cl j : Nat) : Bool :=
  let r := clusterOf s cl
  match r.change with
  | some x => if x.logical = j then x.action != 2 else (servedBy r j).isSome
  | none => (servedBy r j).isSome

def checkServed (s : State) (img : List Word) : Reject :=
  let l := imgSlots img
  ((List.range l.length).zip l).findSome? fun x =>
    if x.2.kind = 0 then
      need ((if x.2.unit = 0xFF then List.range 64 else [x.2.unit]).all (servedAfter s x.2.cluster)) 0x0A
        (slotOff img + 4 * x.1 + 2)
    else none

/-! ## Annotations (0x0B; R85, R86) -/

/-- The end of a cluster's last CORE slot in a frame, 0 without one. -/
def coreEnd (l : List SlotE) (f cl : Nat) : Nat :=
  (l.filter fun e => e.kind == 0 && e.cluster == cl && decide (e.first ≤ f ∧ f ≤ e.last)).foldl
    (fun a e => max a (e.start + e.len)) 0

/-- SLACK of a cluster in a frame (R86). -/
def slackOk (img : List Word) (l : List SlotE) (f cl : Nat) : Bool :=
  let sl := recSlack (annotRec img f) cl
  let e := coreEnd l f cl
  if e = 0 then sl == 255 else decide (max 20 (syncUnits img) ≤ sl ∧ e + 16 * sl ≤ 4096)

/-- Every annotation. DEDUCED: ENERGY_LSB 0 fails here, and a cluster without a CORE slot must have SLACK
255 (notes/assumptions/92). -/
def checkAnnot (img : List Word) : Reject :=
  if imgLsb img = 0 then some (0x0B, 9)
  else
    let l := imgSlots img
    (List.range (loopFrames img)).findSome? fun f =>
      (List.range 64).findSome? fun cl =>
        need (slackOk img l f cl) 0x0B (annotOff img + annotLen img * f + cl / 2)

/-! ## All checks (R90) -/

/-- The checks up to 0x04. -/
def checkFirst (s : State) (img : List Word) : Reject :=
  firstReject [fun _ => checkHeader img, fun _ => checkLayout img, fun _ => checkSignature s img]

/-- The checks from 0x06 on; 0x0C fails only when every other passes. DEDUCED (notes/assumptions/93). -/
def checkRest (s : State) (img : List Word) : Reject :=
  firstReject [fun _ => checkJob s img, fun _ => checkSlots img, fun _ => checkChains s img,
               fun _ => checkPairs img, fun _ => checkServed s img, fun _ => checkAnnot img,
               fun _ => need (!s.last.standbyIncomplete) 0x0C img.length]

/-- The status of a reason (R90). -/
def rejectStatus (reason : Nat) : Nat := if reason = 2 then 5 else if reason = 5 then 6 else 9

end Sys2Proof.Machine
end

