-- ==== Sys2Proof/Machine/Last.lean ====
section
/-! DEFINITION. The Last sequencer: registers, opcodes, frame boundaries, switches, markers, shed notices
and faults (R74 to R76, R89 to R109). -/

namespace Sys2Proof.Machine

/-! ## Registers (R103 to R108) -/

/-- This package is the frame leader of its job; without a LAST_JOB_SET it has none (R92, R104, R109). -/
def isLeader (s : State) : Bool := s.last.jobGiven && s.lace.idValid && ownId s == s.last.leaderId

/-- LAST_STATE. -/
def regLastState (s : State) : Word :=
  mkW [(12, framePeriodCode s), (8, if s.last.st = .empty then 0 else imgVersion s.last.active % 16),
       (7, bn (isLeader s)), (6, bn s.last.armed.isSome), (5, bn s.last.standbyIncomplete),
       (4, bn s.last.standbyValid), (0, s.last.st.code)]

/-- LAST_FRAME, LAST_PASS, LAST_JOB, LAST_JOB_SIZE and LAST_OVERRUN. -/
def regLastFrame (l : LastBlk) : Word := w32 l.f
def regLastPass (l : LastBlk) : Word := l.pass
def regLastJob (l : LastBlk) : Word := mkW [(16, l.jobId), (15, bn l.scope), (0, l.leaderId)]
def regLastJobSize (l : LastBlk) : Word := mkW [(16, l.faultTimeout), (0, l.members)]
def regLastOverrun (l : LastBlk) : Word := mkW [(16, l.shedCnt), (0, l.stretchCnt)]

/-- A read of the sequencer's registers. -/
def regLast (s : State) (off : Nat) : Word :=
  if off = 0x00 then regLastState s
  else if off = 0x04 then regLastFrame s.last
  else if off = 0x08 then regLastPass s.last
  else if off = 0x0C then regLastJob s.last
  else if off = 0x10 then regLastJobSize s.last
  else if off = 0x14 then s.last.event
  else if off = 0x18 then regLastOverrun s.last
  else if off = 0x1C then w32 s.last.maxStretch
  else 0

/-- A write of them. -/
def lastWrite (off : Nat) (be : BitVec 4) (w : Word) (s : State) : State :=
  s.onLast fun l =>
    if off = 0x14 then { l with event := wW1C 0x3F#32 l.event w be }
    else if off = 0x18 then
      let x := wRW 0xFFFFFFFF#32 (regLastOverrun l) w be
      { l with shedCnt := fld x 16 16, stretchCnt := fld x 0 16 }
    else if off = 0x1C then { l with maxStretch := (wRW 0xFFFF#32 (w32 l.maxStretch) w be).toNat }
    else l

/-- A bit of LAST_EVENT sets. -/
def lastEvent (i : Nat) (s : State) : State := s.onLast fun l => { l with event := setBit l.event i }

/-! ## Load and commit (R89 to R91) -/

/-- LAST_LOAD: the standby content becomes invalid as the window opens (R89, R100). -/
def doLastLoad (e : Ctx) (s : State) : State × Answer :=
  let n := clampN 16 67108864 (wd e.words 0).toNat
  if computeOff s then (s, some (7, []))
  else if s.last.armed.isSome || windowBusy s e.port 1 0 then (s, some (2, [w32 n]))
  else
    (openWindow e.port e.tag 1 0 false n []
      (s.onLast fun l => { l with standby := [], standbyValid := false, standbyIncomplete := false }),
     some (0, [w32 n]))

/-- LAST_LOAD. -/
def execLastLoad (r : Req) (s : State) : Out := opcode 0x300 doLastLoad r s

/-- The words received into the standby slot so far. -/
def receivedWords (s : State) : List Word :=
  match allPorts.find? fun p => (s.win p).active && (s.win p).target == 1 with
  | some p => (s.win p).inWords
  | none => s.last.standby

/-- An image becomes active: M5 is extended with its signed hash (R89, R500). DEDUCED: the hash of an
unsigned image is that of all its words (notes/assumptions/94). -/
def activate (img : List Word) (s : State) : State :=
  measure 5 (hashWords (signedWords img)) (s.onLast fun l => { l with active := img })

/-- A committed image moves to the active slot (R89). -/
def toActive (img : List Word) (s : State) : State :=
  setLast .loaded ((activate img s).onLast fun l =>
    { l with standby := [], standbyValid := false, f := 0, pass := 0, ready := false })

/-- A rejected image (R90). -/
def rejectImage (img : List Word) (reason word : Nat) (s : State) : State × Answer :=
  (raiseLast Ev.lastLoadReject [(1, reason), (4, word)] img
     (lastEvent 4 (s.onLast fun l => { l with standbyValid := false })),
   some (rejectStatus reason, [mkW [(8, word % 2 ^ 24), (0, reason)]]))

/-- LAST_COMMIT (R90). DEDUCED: LAST_UNSIGNED is logged when check 0x05 passes, whatever a later check finds
(notes/assumptions/93). DESIGN CHOICE: a transfer that is still open does not fail check 0x0C; check 0x03 then judges the
words received so far (notes/assumptions/158). -/
def doLastCommit (_ : Ctx) (s : State) : State × Answer :=
  let img := receivedWords s
  if computeOff s then (s, some (7, []))
  else
    match checkFirst s img with
    | some (r, w) => rejectImage img r w s
    | none =>
      match checkLife s img with
      | some (r, w) => rejectImage img r w s
      | none =>
        let s1 := s.whenB (sigOff img == 0) (raiseLast Ev.lastUnsigned [] img)
        match checkRest s img with
        | some (r, w) => rejectImage img r w s1
        | none =>
          (if s.last.st = .empty then toActive img s1
           else s1.onLast fun l => { l with standby := img, standbyValid := true }, some (0, [0]))

/-- LAST_COMMIT. -/
def execLastCommit (r : Req) (s : State) : Out := opcode 0x301 doLastCommit r s

/-! ## Jobs, start, switch, pause (R91 to R95) -/

/-- LAST_JOB_SET; a member other than the leader then sends JOIN up the tree (R173). -/
def doJobSet (e : Ctx) (s : State) : State × Answer :=
  let w1 := wd e.words 0
  let ft := clampN 1 255 (fld (wd e.words 1) 16 8)
  let mem := clampN 1 2048 (fld (wd e.words 1) 0 12)
  let ws := [w1 &&& 0xFFFF87FF#32, mkW [(16, ft), (0, mem)]]
  if computeOff s then (s, some (7, []))
  else if lastBusy s then (s, some (2, ws))
  else
    let t := s.onLast fun l =>
      { l with jobId := fld w1 16 16, scope := bitOf w1 15, leaderId := fld w1 0 11, faultTimeout := ft,
               members := mem, jobGiven := true, jobSet := true }
    (t.whenB (!isLeader t) (sendJoin (t.last.jobId % 256) t.last.leaderId (ownId t)), some (0, ws))

/-- LAST_JOB_SET. -/
def execLastJobSet (r : Req) (s : State) : Out := opcode 0x302 doJobSet r s

/-- A slot's repetitive controller at a start or a completed switch: the table whose period is the loop's is
cleared, and its ramp restarts (R330). -/
def clearRepeat (x : Slot) : Slot :=
  if x.repFrames = 0 then { x with table := [], periods := 0, lastF := 0 } else { x with lastF := 0 }

/-- Every slot at a start or a completed switch (R330). -/
def clearRepeats (s : State) : State := s.onCtl fun c => { c with slots := c.slots.map clearRepeat }

/-- A start is requested (R93), cold where WARM is 0 (R280). -/
def startJob (s : State) : State :=
  let s1 := clearRepeats (s.onLast fun l => { l with startPending := true })
  if s.pwr.warm then s1 else raise Ev.pwrColdStart [] (s1.onPwr fun p => { p with coldStart := some s.log.elapsed })

/-- LAST_START. DEDUCED: a FAULTED job that no LAST_JOB_SET has set anew is answered BUSY
(notes/assumptions/95). -/
def doLastStart (_ : Ctx) (s : State) : State × Answer :=
  if computeOff s then (s, some (7, []))
  else if !isLeader s then (s, some (6, []))
  else if s.last.st = .loaded ∨ (s.last.st = .faulted ∧ s.last.jobSet = true) then (startJob s, some (0, []))
  else (s, some (2, []))

/-- LAST_START. -/
def execLastStart (r : Req) (s : State) : Out := opcode 0x303 doLastStart r s

/-- LAST_SWITCH. DEDUCED: a switch that is armed while no job is RUNNING or PAUSED waits until one is
(notes/assumptions/95). -/
def doLastSwitch (e : Ctx) (s : State) : State × Answer :=
  let when_ := bitOf (wd e.words 0) 0
  let ws := [w32 (bn when_)]
  if computeOff s then (s, some (7, []))
  else if !isLeader s then (s, some (6, ws))
  else if !s.last.standbyValid || s.last.armed.isSome then (s, some (2, ws))
  else (s.onLast fun l => { l with armed := some when_ }, some (0, ws))

/-- LAST_SWITCH. -/
def execLastSwitch (r : Req) (s : State) : Out := opcode 0x304 doLastSwitch r s

/-- LAST_PAUSE. -/
def execLastPause (r : Req) (s : State) : Out :=
  opcode 0x305 (fun _ s =>
    if computeOff s then (s, some (7, []))
    else if !isLeader s then (s, some (6, []))
    else if s.last.st = .running then (s.onLast fun l => { l with pausePending := true }, some (0, []))
    else (s, some (2, []))) r s

/-- LAST_RESUME. -/
def execLastResume (r : Req) (s : State) : Out :=
  opcode 0x306 (fun _ s =>
    if computeOff s then (s, some (7, []))
    else if !isLeader s then (s, some (6, []))
    else if s.last.st = .paused then (s.onLast fun l => { l with resumePending := true }, some (0, []))
    else (s, some (2, []))) r s

/-- The active slot is emptied: deferred tests start and waiting retirements take effect (R36, R479).
DEDUCED: a valid standby then moves to it as at a commit (notes/assumptions/95). -/
def unloadActive (s : State) : State :=
  let s1 := (setLast .empty s).onLast fun l =>
    { l with active := [], startPending := false, pausePending := false, resumePending := false, ready := false }
  let s2 := startDeferredTests (retireWaiting (s1.onIsl fun i => { i with ahead := [] }))
  if s.last.standbyValid then toActive s.last.standby s2 else s2

/-- LAST_UNLOAD. -/
def doLastUnload (e : Ctx) (s : State) : State × Answer :=
  let standby := bitOf (wd e.words 0) 0
  let ws := [w32 (bn standby)]
  if computeOff s then (s, some (7, []))
  else if s.last.armed.isSome || s.last.st == .running then (s, some (2, ws))
  else if standby then (s.onLast fun l => { l with standby := [], standbyValid := false }, some (0, ws))
  else if s.last.st = .empty then (s, some (0, ws))
  else (unloadActive s, some (0, ws))

/-- LAST_UNLOAD. -/
def execLastUnload (r : Req) (s : State) : Out := opcode 0x307 doLastUnload r s

/-- LAST_STATUS. -/
def execLastStatus (r : Req) (s : State) : Out :=
  opcode 0x308 (fun _ s =>
    if computeOff s then (s, some (7, []))
    else (s, some (0, [regLastState s, regLastFrame s.last, regLastPass s.last, regLastOverrun s.last]))) r s

/-! ## What a boundary brings (R93 to R100) -/

/-- What begins at a frame boundary; `stay` when no boundary can come yet. -/
inductive Begin where
  | stay | idle | run | pause | paused | switch | start | newRun | newPaused
deriving DecidableEq, Repr

/-- The job has more than one package, so its boundaries follow markers (R96). -/
def multi (s : State) : Bool := decide (1 < s.last.members)

/-- JOB_ID[7:0]. -/
def jobByte (s : State) : Nat := s.last.jobId % 256

/-- The marker of the coming boundary is out, or has come. -/
def markerHere (s : State) : Bool := !multi s || (if isLeader s then s.last.markerOut.isSome else s.last.markerIn.isSome)

/-- Every other member has joined, and the bit of each lane of the tree has come (R97, R173). -/
def treeAnd (s : State) (bits : JobFwd → List Nat) : Bool :=
  match fwdOf s.lace (jobByte s) with
  | some f => decide (s.last.members ≤ f.members.length + 1) && f.lanes.all fun n => (bits f).contains n
  | none => false

/-- At a leader of several packages the job's ready has arrived, and its STANDBY_VALID; a member follows the
leader's markers (R93, R94, R97). -/
def jobReady (s : State) : Bool := !multi s || !isLeader s || treeAnd s fun f => f.ready
def jobStandby (s : State) : Bool := s.last.standbyValid && (!multi s || !isLeader s || treeAnd s fun f => f.standby)

/-- The armed switch is for the boundary that ends the present frame (R94). -/
def switchNow (s : State) : Bool :=
  match s.last.armed with
  | some true => true
  | some false => s.last.st == .running && s.last.f == imgLoopM1 s.last.active
  | none => false

/-- What begins, markers aside. -/
def nextBegin (s : State) : Begin :=
  let l := s.last
  if l.inSwitch then
    if !l.switched || !jobReady s then .stay
    else if l.pausePending || (l.st == .paused && !l.resumePending) then .newPaused else .newRun
  else
    match l.st with
    | .running =>
      if !l.ready || !jobReady s then .stay
      else if switchNow s then (if jobStandby s then .switch else .stay)
      else if l.pausePending then .pause else .run
    | .paused =>
      if switchNow s then (if jobStandby s then .switch else .stay)
      else if l.resumePending then .run else .paused
    | .loaded => if l.startPending && jobReady s then .start else .idle
    | .faulted => if l.startPending && l.jobSet && jobReady s then .start else .idle
    | .empty => .idle

/-- What begins at the boundary (R93 to R98); without a job under way the frame timer runs on (R76). -/
def begins (s : State) : Begin :=
  match nextBegin s with
  | .idle => .idle
  | b => if markerHere s then b else if lastBusy s then .stay else .idle

/-- F and I of the frame after the present one (R102). -/
def nextF (l : LastBlk) : Nat := if l.f = imgLoopM1 l.active then 0 else l.f + 1
def nextPass (l : LastBlk) : BitVec 32 := if l.f = imgLoopM1 l.active then l.pass + 1 else l.pass

/-- The stretch of the frame that ends, in slot ticks rounded up (R98, R108). -/
def stretchTicks (ps pUs : Nat) : Nat := (4096 * ps + 1000000 * pUs - 1) / (1000000 * pUs)

/-- A stretched frame is counted (R98). -/
def noteStretch (ps : Nat) (s : State) : State :=
  if ps = 0 ∨ s.last.st ≠ .running then s
  else
    (lastEvent 0 s).onLast fun l =>
      { l with stretchCnt := satAdd 0xFFFF l.stretchCnt 1
               maxStretch := max l.maxStretch (min 0xFFFF (stretchTicks ps (periodUs (imgPeriod l.active)))) }

/-- The power state that a Last's start, pause or resume brings (R95, R261). -/
def lastPower (t : PState) (s : State) : State :=
  if s.pwr.seq.isSome then s.onPwr fun p => { p with pstate := t }
  else s.onPwr fun p => { p with pstate := t, target := t }

/-- A transition between S0 and S1 ends at the boundary (R261). -/
def boundaryPower (s : State) : State :=
  match s.pwr.seq with
  | some q =>
    if q.atBoundary then
      replySeq q ((s.whenB q.host resumeDone).onPwr fun p =>
        { p with pstate := q.target, target := q.target, seq := none })
    else s
  | none => s

/-- At a boundary the symbols of the tree have arrived, and its bits count for the next one (R97, R173). -/
def treeSpent (s : State) : State :=
  s.onLace fun l =>
    { l with symbolsOut := [], readyOut := [], joinOut := []
             fwds := l.fwds.map fun f => if f.job = jobByte s then { f with ready := [], standby := [] } else f }

/-- A frame of the Last begins: every chain is at its first descriptor, and nothing of the frame before is left
(R81, R171). -/
def beginFrame (f : Nat) (pass : BitVec 32) (s : State) : State :=
  (setLast .running (collsDropped (treeSpent s))).onLast fun l =>
    { l with f := f, pass := pass, ready := false, shedSent := false, startPending := false,
             pausePending := false, resumePending := false, markerOut := none, markerIn := none, bndDelay := 0,
             chains := [], collIndex := 0 }

/-- The new Last's first boundary: the switch is complete (R94). DESIGN CHOICE: SWITCH_PENDING reads 1 until then
(R104, notes/assumptions/159). -/
def switchDone (s : State) : State :=
  raiseLast Ev.lastSwitchDone [] s.last.active
    (clearRepeats ((lastEvent 3 s).onLast fun l =>
      { l with inSwitch := false, switched := false, armed := none, f := 0, pass := 0, ready := false,
               markerOut := none, markerIn := none, pausedBeforeFrame0 := false }))

/-- A boundary without a frame of the Last: markers are spent. -/
def noFrame (s : State) : State :=
  (treeSpent s).onLast fun l => { l with markerOut := none, markerIn := none, bndDelay := 0, shedSent := false }

/-- The sequencer's part of a boundary. -/
def beginWith (b : Begin) (s : State) : State :=
  match b with
  | .stay => s
  | .idle => s
  | .run =>
    if s.last.pausedBeforeFrame0 then
      lastPower .s0 (beginFrame 0 0 (s.onLast fun l => { l with pausedBeforeFrame0 := false }))
    else if s.last.st = .paused then lastPower .s0 (beginFrame (nextF s.last) (nextPass s.last) s)
    else beginFrame (nextF s.last) (nextPass s.last) s
  | .start => lastPower .s0 (beginFrame 0 0 s)
  | .pause => lastPower .s1 ((setLast .paused (noFrame s)).onLast fun l => { l with pausePending := false })
  | .paused => noFrame s
  | .switch =>
    (noFrame s).onLast fun l => { l with inSwitch := true, switched := false, oldPeriod := imgPeriod l.active }
  | .newRun =>
    let t := beginFrame 0 0 (switchDone s)
    if s.last.st = .paused then lastPower .s0 t else t
  | .newPaused =>
    let t := (switchDone s).onLast fun l => { l with pausePending := false, pausedBeforeFrame0 := true }
    if s.last.st = .paused then t else lastPower .s1 (setLast .paused t)

/-- The forecast moves on by the frame that begins (R306). -/
def forecastMoves (b : Begin) (s : State) : State :=
  s.onIsl fun i =>
    if b = .run ∨ b = .newRun ∨ b = .switch ∨ (b = .idle ∧ s.last.st = .loaded) then
      { i with ahead := i.ahead.drop 1, tickInFrame := 0 }
    else { i with tickInFrame := 0 }

/-- FRAME_BOUNDARY: in S0 and S1 the timer runs; the frame that ends is counted, the next one begins, and the
power manager acts (R74 to R76, R98, R273). -/
def execFrameBoundary (stretch pkgW : Nat) (s : State) : Out :=
  live s
    (let b := begins s
     if !inS0S1 s || !computeOn s || b == .stay then s
     else
       let s1 := noteStretch (if s.last.inSwitch then 0 else stretch) s
       powerFrame (pastFrame s stretch pkgW) pkgW (coreEndedMw s)
         (forecastMoves b (boundaryPower (beginWith b s1))))

/-- LAST_SWITCH_FRAME: the standby becomes active; waiting exchanges of cores with their SRAM copies, and
waiting stack retirements, are made (R35, R36, R94 step 2, R479). -/
def execLastSwitchFrame (s : State) : Out :=
  live s
    (if s.last.inSwitch && !s.last.switched && s.last.standbyValid then
       let s1 := (activate s.last.standby s).onLast fun l =>
         { l with standby := [], standbyValid := false, switched := true }
       retireWaiting (makeChanges s1)
     else s)

/-! ## Ready (R97, R173) -/

/-- The ready of a job goes up the tree with STANDBY_VALID: the AND of this package's own, where it is a member, and
of the lanes that lead to members (R97, R173). -/
def sendReady (job : Nat) (s : State) : State :=
  let own := s.last.jobGiven && job == jobByte s
  let below := fwdOf s.lace job
  let leader := if own then s.last.leaderId else (below.map fun f => f.leader).getD (ownId s)
  let all (bits : JobFwd → List Nat) : Bool := below.all fun f => f.lanes.all fun n => (bits f).contains n
  if leader == ownId s || (own && !s.last.ready) || !all (fun f => f.ready) then s
  else
    match symbolLane s (upLane s leader) with
    | none => s
    | some n =>
      s.onLace fun l =>
        { l with readyOut := l.readyOut.filter (fun x => x.1 != job) ++
                   [(job, all (fun f => f.standby) && (!own || s.last.standbyValid), n)]
                 fwds := l.fwds.map fun f => if f.job = job then { f with ready := [], standby := [] } else f }

/-- This package is ready: every chain of the frame has completed; in the switch frame its work is done; a member in
LOADED reports ready (R93, R94, R97). DEDUCED: so do one that is PAUSED, and one in FAULTED after its
LAST_JOB_SET (notes/assumptions/165). -/
def packageDone (s : State) : Bool :=
  computeOn s && inS0S1 s &&
    match s.last.st with
    | .running =>
      if s.last.inSwitch then s.last.switched
      else chainsDone s && s.lace.txns.isEmpty && s.lace.waiting.isEmpty && s.lace.colls.isEmpty
    | .paused => !s.last.inSwitch || s.last.switched
    | .loaded => true
    | .faulted => s.last.jobSet
    | .empty => false

/-- A ready bit comes from below (R173). -/
def takeReady (job lane : Nat) (standby : Bool) (s : State) : State :=
  s.onLace fun l =>
    { l with fwds := l.fwds.map fun f =>
        if f.job = job ∧ f.lanes.contains lane then
          { f with ready := addSorted f.ready lane
                   standby := if standby then addSorted f.standby lane else f.standby.filter (· != lane) }
        else f }

/-- PACKAGE_READY: this package's, or a bit from below. -/
def execPackageReady (below : Option (Nat × Fin 128 × Bool)) (s : State) : Out :=
  live s
    (match below with
     | none =>
       if packageDone s then sendReady (jobByte s) (s.onLast fun l => { l with ready := true }) else s
     | some (job, lane, standby) =>
       let j := job % 256
       if inS0S1 s && computeOn s && laneActive s lane.val && (fwdOf s.lace j).isSome then
         sendReady j (takeReady j lane.val standby s)
       else s)

/-! ## Markers (R96, R98, R173, R174) -/

/-- F that the next marker carries: that of the frame about to begin (R96). -/
def markerF (l : LastBlk) : Nat × BitVec 32 :=
  if l.inSwitch || l.pausedBeforeFrame0 || l.st == .loaded || l.st == .faulted then (0, 0) else (nextF l, nextPass l)

/-- The marker for what begins (R96, R174). -/
def markerFor (b : Begin) (s : State) : Marker :=
  let l := s.last
  { f := (markerF l).1, pass := (markerF l).2.toNat % 65536,
    period := imgPeriod l.active, job := jobByte s, switchFlag := b == .switch,
    pauseFlag := b == .pause || b == .paused || b == .newPaused, faultFlag := false }

/-- A symbol goes out on lanes of the tree, each by a fallback path while it is not active (R164, R173). -/
def sendSymbol (k : Marker) (lanes : List Nat) (s : State) : State :=
  s.onLace fun l => { l with symbolsOut := l.symbolsOut ++ lanes.filterMap fun n => (symbolLane s n).map fun m => (k, m) }

/-- The lanes that lead to members of a job. -/
def treeLanes (s : State) (job : Nat) : List Nat := ((fwdOf s.lace job).map fun f => f.lanes).getD []

/-- MARKER_EMIT: the leader of a job of several packages announces the coming boundary, once the job's ready
has arrived; ACC is the time that the marker waited (R96, R98, R174). -/
def execMarkerEmit (waited : Nat) (s : State) : Out :=
  live s
    (let b := nextBegin s
     if isLeader s && multi s && inS0S1 s && b != .stay && b != .idle then
       let k := laterBy (markerFor b s) waited
       (sendSymbol k (treeLanes s (jobByte s)) s).onLast fun l => { l with markerOut := some k }
     else s)

/-- The measured delay of a lane, in ps (R153). -/
def lanePs (s : State) (n : Nat) : Nat := 500 * (laneOf s n).delay

/-- A symbol of a job goes on down the tree, over lanes at version 2.0 or later: ACC gains the delay of the lane that it
came on and the residence here, 20 ns at version 2.0 (R157, R173, R174). -/
def forwardSymbol (k : Marker) (lane residence : Nat) (s : State) : State :=
  let r := if 3 ≤ (laneOf s lane).ver then residence else 20000
  if laneRelays s lane then
    sendSymbol (laterBy k (lanePs s lane + r))
      ((treeLanes s k.job).filter fun n => n != lane && (!laneActive s n || laneRelays s n)) s
  else s

/-- The marker's F, PERIOD and JOB_ID are those expected (R96). -/
def markerFits (s : State) (k : Marker) : Bool :=
  k.period == imgPeriod s.last.active && k.job == jobByte s && k.f == (markerF s.last).1

/-- t_lead in ps (R96). -/
def leadPs (s : State) : Nat := if imgScope s.last.active then 1500000 else 500000

/-- A marker of the job reaches a member: it is taken for the coming boundary, which follows by t_lead less ACC and the
delay of its lane, or it faults the member (R96, R99, R174). DEDUCED: a marker that should have come earlier is taken
at once (notes/assumptions/166). -/
def takeMarker (k : Marker) (lane : Nat) (s : State) : State :=
  if !markerFits s k then lastFault (raiseLast Ev.lastMarkerMismatch [] s.last.active (lastEvent 5 s))
  else if k.faultFlag then lastFault s
  else
    let starts := !k.pauseFlag && (s.last.st == .loaded || s.last.st == .faulted)
    (s.whenB starts clearRepeats).onLast fun l =>
      { l with markerIn := some k
               bndDelay := leadPs s - (k.acc + lanePs s lane)
               armed := if k.switchFlag then some true else l.armed
               startPending := l.startPending || starts
               pausePending := l.pausePending || (k.pauseFlag && (l.st == .running || l.inSwitch))
               resumePending := l.resumePending || (!k.pauseFlag && !k.switchFlag && l.st == .paused) }

/-- FRAME_MARKER_RECEIVE: a package in S0 or S1 forwards a marker of any job that it has lanes for; a member takes it,
but for one of another job that it forwards. A FAULTED member waits for the LAST_JOB_SET that R99 asks for. -/
def execFrameMarkerReceive (k : Marker) (lane : Fin 128) (residence : Nat) (s : State) : Out :=
  live s
    (if inS0S1 s && computeOn s && laneActive s lane.val then
       let t := forwardSymbol k lane.val residence s
       if multi s && !isLeader s && s.last.st != .empty && (s.last.st != .faulted || s.last.jobSet) &&
           (k.job == jobByte s || (fwdOf s.lace k.job).isNone) then takeMarker k lane.val t
       else t
     else s)

/-! ## Shed and fault (R99) -/

/-- A shed notice's effect at each member. -/
def shed (s : State) : State :=
  raiseLast Ev.lastShed [] s.last.active
    ((shedLower (lastEvent 1 s)).onLast fun l => { l with shedCnt := satAdd 0xFFFF l.shedCnt 1, shedSent := true })

/-- The ready of the job has not arrived at the leader. -/
def notReady (s : State) : Bool := lastBusy s && nextBegin s == .stay

/-- SHED_NOTICE: the leader's, once in a frame, to all members (R99, R174). -/
def execShedNotice (s : State) : Out :=
  live s
    (if isLeader s && s.last.st == .running && !s.last.inSwitch && notReady s && !s.last.shedSent then
       shed (sendSymbol { markerFor .run s with shedFlag := true } (treeLanes s (jobByte s)) s)
     else s)

/-- SHED_NOTICE_RECEIVE: forwarded like a marker, and taken by a member of the job. -/
def execShedNoticeReceive (k : Marker) (lane : Fin 128) (residence : Nat) (s : State) : Out :=
  live s
    (if inS0S1 s && computeOn s && laneActive s lane.val then
       let t := forwardSymbol k lane.val residence s
       if lastBusy s && !isLeader s && k.job == jobByte s then shed t else t
     else s)

/-- FRAME_FAULT_TIMEOUT: the leader emits a FAULT marker and enters FAULTED. -/
def execFrameFaultTimeout (s : State) : Out :=
  live s
    (if isLeader s && notReady s then
       if multi s then
         let k := { markerFor .run s with faultFlag := true }
         (lastFault (sendSymbol k (treeLanes s (jobByte s)) s)).onLast fun l => { l with markerOut := some k }
       else lastFault s
     else s)

/-- MEMBER_MARKER_TIMEOUT: a member without a marker enters FAULTED by itself. -/
def execMemberMarkerTimeout (s : State) : Out :=
  live s (if lastBusy s && multi s && !isLeader s && s.last.markerIn.isNone then lastFault s else s)

end Sys2Proof.Machine
end

