-- ==== Sys2Proof/Machine/Service.lean ====
section
/-! DEFINITION. Resets by command, repair of cores and stacks, self-tests, and firmware updates (R36 to R38,
R473 to R490). -/

namespace Sys2Proof.Machine

/-! ## RESET_DOMAIN (R473, R474, R488) -/

/-- DOMAIN as applied, and word 1 with it. -/
def resetDomainNo (w : Word) : Nat := clampN 1 6 (fld w 0 4)
def resetWord (w : Word) : Word := mkW [(31, bn (bitOf w 31)), (8, fld w 8 4), (0, resetDomainNo w)]

/-- What a reset of a domain does; a running job faults when Lace resets under it (R100). -/
def resetEffect (d mask : Nat) (s : State) : State :=
  if d = 1 then diesReset mask s
  else if d = 2 then laceReset (diesReset 0xF s)
  else if d = 3 then laceReset (s.whenB (lastBusy s) lastFault)
  else if d = 4 then mpDown s
  else if d = 5 then procDown s
  else secDown s

/-- What RESET_DOMAIN does: for a processor the reply is written before the reset begins (R474). -/
def doResetDomain (e : Ctx) (s : State) : State × Answer :=
  let w := wd e.words 0
  let d := resetDomainNo w
  let mask := fld w 8 4
  let r := resetWord w
  if d ≤ 3 ∧ computeOff s = true then (s, some (7, []))
  else if (d ≤ 3 ∧ lastBusy s = true ∧ bitOf w 31 = false) ∨ (d = 6 ∧ s.sec.life = .production) then
    (s, some (6, [r]))
  else
    let s1 := raise Ev.domainReset [(1, d)] s
    if d ≤ 3 then (resetEffect d mask s1, some (0, [r]))
    else (resetEffect d mask (finish e 0 [r] s1), none)

/-- RESET_DOMAIN. -/
def execResetDomain (r : Req) (s : State) : Out := opcode 0x104 doResetDomain r s

/-! ## CORE_SWAP and self-tests (R36, R37, R477, R478) -/

/-- The words of CORE_SWAP as applied. -/
def swapWords (e : Ctx) : List Word :=
  [mkW [(8, min 63 (fld (wd e.words 0) 8 8)), (0, min 63 (fld (wd e.words 0) 0 8))],
   mkW [(0, fld (wd e.words 1) 0 2)]]

/-- The change that CORE_SWAP asks for: made at once without a running or paused Last, else it waits. -/
def requestChange (cl : Nat) (x : CoreChange) (s : State) : State :=
  let t := onCluster cl (fun r => { r with change := some x }) s
  if lastBusy s then t else makeChanges t

/-- What CORE_SWAP does. -/
def doCoreSwap (e : Ctx) (s : State) : State × Answer :=
  let cl := min 63 (fld (wd e.words 0) 8 8)
  let j := min 63 (fld (wd e.words 0) 0 8)
  let a := fld (wd e.words 1) 0 2
  let r := clusterOf s cl
  let ans (st : Nat) (t : State) : State × Answer := (t, some (st, swapWords e ++ [regClusterSpare t cl]))
  if computeOff s then (s, some (7, []))
  else if a = 3 then
    (if s.last.inSwitch then ans 2 s else ans 0 (onCluster cl (fun r => { r with change := none }) s))
  else if r.change.isSome then ans 2 s
  else if a ≠ 2 ∧ r.spare = none then ans 6 s
  else ans (if lastBusy s then 1 else 0) (requestChange cl { logical := j, action := a, pattern := 0 } s)

/-- CORE_SWAP. -/
def execCoreSwap (r : Req) (s : State) : Out := opcode 0x410 doCoreSwap r s

/-- Word 2 of CORE_SELFTEST's reply. FREE VALUES: the code of the test, one of R69, and its run time within
R38 (notes/assumptions/90). -/
def testWord (s : State) (pattern : Nat) : Word :=
  mkW [(8, (Config.testCode s.free).toNat % 5), (0, Config.testMs s.free % (if pattern = 0 then 41 else 16))]

/-- What CORE_SELFTEST does. DEDUCED: a cluster whose change waits, and a core whose test runs, answer BUSY
(notes/assumptions/97). -/
def doSelftest (e : Ctx) (s : State) : State × Answer :=
  let cl := min 63 (fld (wd e.words 0) 8 8)
  let c := min 64 (fld (wd e.words 0) 0 8)
  let pat := fld (wd e.words 1) 0 2
  let r := clusterOf s cl
  let ans (st : Nat) (t : State) : State × Answer :=
    ({ t with free := t.free + 1 }, some (st, [mkW [(8, cl), (0, c)], testWord s pat]))
  if computeOff s then (s, some (7, []))
  else if (coreRegs s (coreKey cl c)).testRunning then ans 2 s
  else
    match serves r c with
    | none => ans 0 (endTest cl c ((Config.testCode s.free).toNat % 5) s)
    | some j =>
      if r.spare.isSome then
        (if r.change.isSome then ans 2 s
         else ans 1 (onCluster cl (fun r =>
           { r with change := some { logical := j, action := 0, pattern := pat, test := true } }) s))
      else ans 1 (onCluster cl (fun r => { r with deferred := sput r.deferred c pat }) s)

/-- CORE_SELFTEST. -/
def execCoreSelftest (r : Req) (s : State) : Out := opcode 0x900 doSelftest r s

/-- SELFTEST_COMPLETE: a deferred test, or that of a released core, ends with a code (R36, R477). -/
def execSelftestComplete (cl : Fin 64) (core : Fin 65) (code : Byte) (s : State) : Out :=
  live s (if (coreRegs s (coreKey cl.val core.val)).testRunning then endTest cl.val core.val code.toNat s else s)

/-! ## HBM_RETIRE and REPAIR_STATUS (R479, R480, R488) -/

/-- A stack other than h would be left in service. -/
def otherLeft (s : State) (h : Nat) : Bool :=
  (List.range 6).any fun k => k != h && stackUsable (stackOf s k) && !(stackOf s k).retireWaiting

/-- What HBM_RETIRE does. -/
def doHbmRetire (e : Ctx) (s : State) : State × Answer :=
  let h := min 5 (fld (wd e.words 0) 0 3)
  let ans (st : Nat) (t : State) : State × Answer :=
    (t, some (st, [w32 h, regStackStat (stackOf t h)]))
  if computeOff s then (s, some (7, []))
  else if (stackOf s h).st = .retired then ans 0 s
  else if !otherLeft s h then ans 6 s
  else if !lastBusy s then ans 0 (retireStack h s)
  else if s.mem.systemStack = h then ans 2 s
  else ans 1 (onStack h (fun k => { k with retireWaiting := true }) s)

/-- HBM_RETIRE. -/
def execHbmRetire (r : Req) (s : State) : Out := opcode 0x411 doHbmRetire r s

/-- The stacks that are retired or will be, by bit. -/
def retiredStacks (s : State) : Nat :=
  (List.range 6).foldl (fun a h =>
    let k := stackOf s h
    if k.recRetired || k.st == .retired || k.retireWaiting then a + 2 ^ h else a) 0

/-- REPAIR_STATUS. -/
def execRepairStatus (r : Req) (s : State) : Out :=
  opcode 0x412 (fun _ s =>
    if computeOff s then (s, some (7, []))
    else
      (s, some (0,
        [mkW [(8, sparesFree s), (5, stacksLeft s), (2, s.mem.systemStack), (1, bn s.sec.repairA), (0, bn s.sec.repairB)],
         w32 (retiredStacks s), w32 (changesWaiting s), hi32 (changesWaiting s)] ++
        (List.range 4).map fun k => (s.lace.retired >>> (32 * k)).setWidth 32))) r s

/-! ## Firmware (R482 to R488, R495, R496) -/

/-- The target of a firmware packet, clamped. -/
def fwTarget (e : Ctx) : Nat := min 2 (fld (wd e.words 0) 30 2)

/-- A bank's size in words (R482). -/
def bankWords (t : Nat) : Nat := if t = 0 then 2097152 else if t = 1 then 524288 else 98304

/-- The bank that does not run, changed. -/
def onIdleBank (f : Bank → Bank) (x : Fw) : Fw := if x.cur then { x with a := f x.a } else { x with b := f x.b }

/-- A target's firmware changed. -/
def onFw (t : Nat) (f : Fw → Fw) (s : State) : State := s.onSec (SecBlk.onFw t f)

/-- What FW_LOAD does: the idle bank's previous image becomes invalid (R483). -/
def doFwLoad (e : Ctx) (s : State) : State × Answer :=
  let t := fwTarget e
  let n := clampN 16 (bankWords t) (fld (wd e.words 0) 0 22)
  let f := s.sec.fw t
  let r := [mkW [(30, t), (0, n)]]
  if windowBusy s e.port 2 t || f.armed || f.trial then (s, some (2, r))
  else
    (openWindow e.port e.tag 2 t false n []
      (onFw t (fun x => { onIdleBank (fun k => { k with valid := false, committed := false, confirmed := false }) x with
                          loading := true, complete := false, words := [] }) s), some (0, r))

/-- FW_LOAD. -/
def execFwLoad (r : Req) (s : State) : Out := opcode 0x700 doFwLoad r s

/-- The header of a firmware image is in order, and its signature and tag verify (R483 check 0x02, R495).
DEDUCED: a wrong MAGIC, TARGET or BODY_WORDS fails this check (notes/assumptions/98). FREE VALUE: what
verifies (notes/assumptions/87). -/
def fwVerifies (s : State) (t : Nat) (img : List Word) : Bool :=
  wd img 0 == 0x54465749#32 && fld (wd img 1) 30 2 == t && (wd img 2).toNat + 36 == img.length &&
  sigBlockOk s 0 3 (fwSigned img) (fwSig img) && (t == 2 || Config.gcmOk img)

/-- The first check of R483 that an image fails: its reason and status. The programmed bank reads back
equal. -/
def fwReject (s : State) (t : Nat) : Option (Nat × Nat) :=
  let f := s.sec.fw t
  if !f.complete || decide (bankWords t < f.words.length) then some (1, 9)
  else if !fwVerifies s t f.words then some (2, 9)
  else if fld (wd f.words 1) 0 8 < floorOf s t then some (3, 6)
  else if fld (wd f.words 1) 16 8 ≠ 0xB0 then some (4, 9)
  else none

/-- The bank that a committed image fills. -/
def committedBank (img : List Word) : Bank :=
  { valid := true, committed := true, release := fld (wd img 1) 0 8, minRel := fld (wd img 1) 8 8, image := img }

/-- What FW_COMMIT does. -/
def doFwCommit (e : Ctx) (s : State) : State × Answer :=
  let t := fwTarget e
  let done (x : Fw) : Fw := { x with complete := false, words := [] }
  match fwReject s t with
  | some (reason, st) =>
    (raise Ev.fwRejected [(1, reason)] (onFw t done s), some (st, [mkW [(30, t)], w32 reason]))
  | none =>
    (raise Ev.fwCommitted [(1, t)]
      (onFw t (fun x => done (onIdleBank (fun _ => committedBank x.words) x)) s), some (0, [mkW [(30, t)], 0]))

/-- FW_COMMIT. -/
def execFwCommit (r : Req) (s : State) : Out := opcode 0x701 doFwCommit r s

/-- An activation or a trial is in progress in the package (R484). -/
def fwBusy (s : State) : Bool := [0, 1, 2].any fun t => (s.sec.fw t).armed || (s.sec.fw t).trial

/-- What FW_ACTIVATE does: the start itself is FW_ACTIVATION_START's. -/
def doFwActivate (e : Ctx) (s : State) : State × Answer :=
  let t := fwTarget e
  let f := s.sec.fw t
  let r := [mkW [(30, t)]]
  if !(bankOf f (!f.cur)).committed || fwBusy s then (s, some (2, r))
  else if t = 2 ∧ s.isl.forced = true then (s, some (6, r))
  else (onFw t (fun x => { x with armed := true }) s, some (0, r))

/-- FW_ACTIVATE. -/
def execFwActivate (r : Req) (s : State) : Out := opcode 0x702 doFwActivate r s

/-- A target's byte of FW_STATUS word 2, and its releases. -/
def fwByte (f : Fw) : Nat :=
  128 * bn f.a.valid + 64 * bn f.b.valid + 32 * bn f.loading + 16 * bn (f.a.committed || f.b.committed) +
  8 * bn f.trial + 4 * bn f.a.confirmed + 2 * bn f.b.confirmed
def fwRels (f : Fw) : Word := mkW [(8, f.a.release), (0, f.b.release)]

/-- FW_STATUS. -/
def execFwStatus (r : Req) (s : State) : Out :=
  opcode 0x703 (fun _ s =>
    (s, some (0, [regGenFw s, mkW [(16, fwByte s.sec.isl), (8, fwByte s.sec.sec), (0, fwByte s.sec.mp)],
                  fwRels s.sec.mp, fwRels s.sec.sec, fwRels s.sec.isl]))) r s

/-- The activated bank is taken, on trial (R484, R487). -/
def takenBank (f : Fw) : Fw :=
  { onIdleBank (fun k => { k with committed := false }) f with
    prev := f.cur, cur := !f.cur, armed := false, trial := true }

/-- A verified MP bank ends the failure of the MP banks' boot (R498). -/
def mpBootMended (c : SecBlk) : SecBlk := if c.secFailed then c else { c with bootFailed := false, bootErr := 0 }

/-- The processor of an activated target restarts (R484 to R486, R500). -/
def restartTarget (t : Nat) (s : State) : State :=
  let rel := fwRel (s.sec.fw t)
  if t = 0 then
    raise Ev.fwActivated [(1, 0), (1, rel)] 
      (measure 2 (bankDigest s 0 s.sec.mp.cur) ((mpDown s).onSec mpBootMended))
  else if t = 1 then raise Ev.fwActivated [(1, 1), (1, rel)] (secDown s)
  else
    raise Ev.fwIslActivated [(1, 2), (1, rel)]
      ((measure 3 (bankDigest s 2 s.sec.isl.cur) (procDown s)).onIsl fun i =>
        { i with updateArm := true, savedTimeout := i.timeoutMs, timeoutMs := 500 })

/-- FW_ACTIVATION_START: not on the boundary of a switch frame for the MP and the security processor (R490),
and never a bank below its floor (R496). -/
def execFwActivationStart (target : Fin 3) (s : State) : Out :=
  let t := target.val
  let f := s.sec.fw t
  live s
    (if f.armed && !(s.last.inSwitch && decide (t < 2)) then
       (if bootOk s t (!f.cur) then restartTarget t (onFw t takenBank s)
        else onFw t (fun x => { x with armed := false }) s)
     else s)

/-- TRIAL_RUN_TIMEOUT: an activated MP not running within 200 ms, or security processor within 100 ms
(R487). -/
def execTrialRunTimeout (target : Fin 3) (s : State) : Out :=
  live s
    (if (target.val = 0 ∧ s.sec.mp.trial = true ∧ s.sec.mpRun = false) ∨
        (target.val = 1 ∧ s.sec.sec.trial = true ∧ s.sec.secRun = false) then rollback target.val s
     else s)

/-- The floor of a target raised to the running image's MIN_REL, by the security processor (R496). -/
def raiseFloor (t : Nat) (s : State) : State :=
  let m := (bankOf (s.sec.fw t) (s.sec.fw t).cur).minRel
  if s.sec.secRun && decide (floorOf s t < m) then
    raise Ev.secFloorRaised [(1, t)] (s.onSec fun c =>
      if t = 0 then { c with floorMp := m } else if t = 1 then { c with floorSec := m } else { c with floorIsl := m })
  else s

/-- TRIAL_END: 60 s without a failure confirm the bank (R487). -/
def execTrialEnd (target : Fin 3) (s : State) : Out :=
  let t := target.val
  live s
    (if (s.sec.fw t).trial then
       raiseFloor t ((onFw t (fun f =>
         if f.cur then { f with trial := false, b := { f.b with confirmed := true } }
         else { f with trial := false, a := { f.a with confirmed := true } }) s).whenB (t == 2) fun u => u.onIsl trialOver)
     else s)

/-! ## The MP starts (R265, R283, R465) -/

/-- PDSEQ_RAILFAIL appears in PWR_EVENT and is logged with the rail (R265). -/
def pdseqShown (s : State) : State :=
  match s.pwr.pdseq with
  | none => s
  | some r => raise Ev.pdseqRailfail [(1, r)] (pwrEvent 8 (s.onPwr fun p => { p with pdseq := none }))

/-- MP_START: pending suppressions are reported, and every token bucket is full (R465). The values that
Cobbler holds stand in the PWR block (R283). -/
def execMpStart (s : State) : Out :=
  live s
    (if mgmtOn s && s.sec.secRun && !s.sec.bootFailed && !s.sec.mpRun && bootOk s 0 s.sec.mp.cur then
       let s1 := s.onSec fun c => { c with mpRun := true }
       let s2 := (s1.log.buckets.map fun b => b.1).foldl flushBucket s1
       pdseqShown (s2.onLog fun l => { l with buckets := [] })
     else s)

end Sys2Proof.Machine
end

