-- ==== Sys2Proof/Machine/Security.lean ====
section
/-! DEFINITION. The security processor: boot and measurement, tokens, lifecycle, the debug lock and
attestation (R492 to R509). -/

namespace Sys2Proof.Machine

/-! ## Boot (R497 to R500, R505) -/

/-- BOOT_ERR of a target whose banks both fail: 0x03 where every bank that holds an image fails by its
release alone, else 0x01 for security and 0x02 for the MP (R506). DEDUCED (notes/assumptions/99). -/
def bootCause (s : State) (t : Nat) : Nat :=
  let below (b : Bool) : Bool := decide ((bankOf (s.sec.fw t) b).release < floorOf s t)
  let holds (b : Bool) : Bool := (bankOf (s.sec.fw t) b).valid
  if (holds false || holds true) && [false, true].all fun b => !holds b || below b then 3
  else if t = 1 then 1 else 2

/-- Neither bank of a target verifies: the MP stays in reset (R498). -/
def bootFails (t : Nat) (s : State) : State :=
  raise Ev.secBootFail [] (s.onSec fun c =>
    { c with bootFailed := true, secFailed := t == 1, bootErr := bootCause s t })

/-- The bank that a start takes runs; taking the other one is logged (R498). -/
def bootTake (t : Nat) (b : Bool) (s : State) : State :=
  if b = (s.sec.fw t).cur then s
  else raise Ev.secBootFallback [(1, t)] (onFw t (fun f => { f with cur := b }) s)

/-- Layer 0 of the security processor: its registers and measurements at the release from reset, and M0 from
the running bank. -/
def bootLayer0 (b : Bool) (s : State) : State :=
  let s1 := bootTake 1 b s
  measure 0 (bankDigest s1 1 b) s1

/-- Layer 1's configuration: binding table and lock, owner keys, M1 (R232, R497). The images from manufacture
carry no owner keys. -/
def bootConfig (s : State) : State :=
  let k := bankOf s.sec.sec s.sec.sec.cur
  let img := bankImage s 1 s.sec.sec.cur
  measure 1 (hashWords (Config.configBlock img))
    ((loadBinding s).onSec fun c =>
      { c with bindLock := true, ownerKeys := if k.image = [] then 0 else Config.ownerKeys img })

/-- M5 built afresh from the Last image that is active (R500). -/
def bootLast (s : State) : State :=
  if s.last.active = [] then s else measure 5 (hashWords (signedWords s.last.active)) s

/-- The MP bank verified: M2, M3 and M4, then M5, and the security lock. An MP that runs already keeps running. -/
def bootMp (s : State) : State :=
  let lock (t : State) : State := t.onSec fun c => { c with secLock := true }
  let rest (t : State) : State :=
    bootLast (measureLife t.sec.life.code t.sec.debug (measure 3 (bankDigest t 2 t.sec.isl.cur) t))
  if s.sec.mpRun then lock (rest (measure 2 (bankDigest s 0 s.sec.mp.cur) s))
  else
    match bootBank s 0 with
    | none => lock (rest (bootFails 0 s))
    | some b =>
      let s1 := bootTake 0 b s
      lock (rest (measure 2 (bankDigest s1 0 b) s1))

/-- SECURITY_BOOT. -/
def execSecurityBoot (s : State) : Out :=
  live s
    (if mgmtOn s && !s.sec.secRun then
       let s1 := s.onSec fun c =>
         { c with secRun := true, bootFailed := false, secFailed := false, bootErr := 0, nonce := none, reports := []
                  ownerKeys := 0, m := Vector.replicate 6 0 }
       match bootBank s1 1 with
       | none => bootFails 1 s1
       | some b => bootMp (bootConfig (bootLayer0 b s1))
     else s)

/-! ## Tokens (R503) -/

/-- The 20 bytes that a token signs: SERIAL, NONCE and the control word. -/
def tokenBytes (s : State) (nonce : BitVec 64) (w1 : Word) : List Byte :=
  leBytes 8 s.sec.serial.toNat ++ leBytes 8 nonce.toNat ++ leBytes 4 w1.toNat

/-- A token of a request verifies: a live nonce, an enabled slot below a bound, and the signature in words 3
to 26. FREE VALUE: what verifies (notes/assumptions/87). -/
def tokenOk (s : State) (bound : Nat) (ws : List Word) : Bool :=
  match s.sec.nonce with
  | none => false
  | some n =>
    let k := fld (wd ws 1) 0 8
    decide (k < bound) && slotEnabled s k &&
      Config.sigOk k (sha384 (tokenBytes s n (wd ws 0))) ((ws.drop 2).take 24)

/-- The nonce is spent (R503). -/
def spendNonce (s : State) : State := s.onSec fun c => { c with nonce := none }

/-- A token request that fails. -/
def tokenFails (s : State) : State := raise Ev.secAuthReject [] (spendNonce s)

/-- NONCE_EXPIRY: 60 s after its CHALLENGE (R503). -/
def execNonceExpiry (s : State) : Out := live s (spendNonce s)

/-! ## The debug lock (R501, R502, R504) -/

/-- The debug state changes; M4 is extended when it does (R500). -/
def setDebug (d : Nat) (s : State) : State :=
  if s.sec.debug = d then s else measureLife s.sec.life.code d (s.onSec fun c => { c with debug := d })

/-! ## SEC_LIFECYCLE_SET (R502, R507) -/

/-- The lifecycle state of a code. -/
def lifeOf (n : Nat) : Life :=
  if n = 0 then .manufacture else if n = 1 then .develop else if n = 2 then .production else .returned

/-- The state that the fuses hold: a transition that waits for the next island power-up is blown already
(R501). DEDUCED: R502 judges a transition from it (notes/assumptions/100). -/
def fusedLife (s : State) : Life := s.sec.pendLife.getD s.sec.life

/-- A transition without a token is permitted; one with a token is (R502). -/
def freeTransition (a b : Life) : Bool :=
  (a == .manufacture && (b == .develop || b == .production)) || (a == .develop && b == .production)
def tokenTransition (a b : Life) : Bool := (a == .develop || a == .production) && b == .returned

/-- A transition is blown: it governs from the next island power-up; entry to PRODUCTION locks the debug port
at once (R501, R502, R500). -/
def blowLife (l : Life) (s : State) : State :=
  let d := if l = .production then 0 else s.sec.debug
  raise Ev.secLifecycleChanged [(1, l.code)]
    (measureLife l.code d (s.onSec fun c => { c with pendLife := some l, debug := d }))

/-- The firmware that runs, or a Last image that runs, is signed by a slot. -/
def slotInUse (s : State) (k : Nat) : Bool :=
  ([0, 1, 2].any fun t => bankSlot s t (s.sec.fw t).cur == k) ||
    (lastBusy s && sigOff s.last.active != 0 && fld (wd s.last.active (sigOff s.last.active + 1)) 0 8 == k)

/-- A slot of 0 to 3 other than k stays enabled. -/
def slotLeft (s : State) (k : Nat) : Bool := (List.range 4).any fun i => i != k && slotEnabled s i

/-- A slot is revoked. -/
def revokeSlot (k : Nat) (s : State) : State :=
  raise Ev.secSlotRevoked [(1, k)] (s.onSec fun c => { c with revoke := c.revoke ||| (1#8 <<< k) })

/-- Word 1 of SEC_LIFECYCLE_SET as applied: OP and the state code or slot. -/
def lifeOp (w : Word) : Nat := min 2 (fld w 28 4)
def lifeArg (w : Word) : Nat := min (if lifeOp w = 1 then 3 else 7) (fld w 0 4)

/-- What SEC_LIFECYCLE_SET does. FREE VALUE: the nonce (notes/assumptions/89). -/
def doLifecycleSet (e : Ctx) (s : State) : State × Answer :=
  let w := wd e.words 0
  let k := lifeArg w
  let r := mkW [(28, lifeOp w), (0, k)]
  let denied (t : State) : State × Answer := (t, some (6, [r]))
  if e.port = .debug then denied s
  else if lifeOp w = 0 then
    let n := Config.nonce s.free
    ({ s.onSec (fun c => { c with nonce := some n }) with free := s.free + 1 },
     some (0, [r, w32 n.toNat, hi32 n.toNat]))
  else if lifeOp w = 1 then
    if freeTransition (fusedLife s) (lifeOf k) then (blowLife (lifeOf k) s, some (0, [r]))
    else if tokenTransition (fusedLife s) (lifeOf k) then
      (if tokenOk s 4 e.words then (blowLife (lifeOf k) (spendNonce s), some (0, [r])) else denied (tokenFails s))
    else denied s
  else if !tokenOk s 4 e.words then denied (tokenFails s)
  else if slotInUse s k || !slotLeft s k then denied (spendNonce s)
  else (revokeSlot k (spendNonce s), some (0, [r]))

/-- SEC_LIFECYCLE_SET. -/
def execSecLifecycleSet (r : Req) (s : State) : Out := opcode 0x801 doLifecycleSet r s

/-! ## SEC_DEBUG_UNLOCK (R501, R504, R507) -/

/-- OP of SEC_DEBUG_UNLOCK as applied: 1 UNLOCK or 3 RELOCK, the nearest, the lower on a tie (R208). -/
def unlockOp (w : Word) : Nat := nearestOf [1, 3] (fld w 28 4)

/-- The key slots whose token opens the debug port, in the state in force (R501). -/
def unlockSlots (s : State) : Nat :=
  match s.sec.life with
  | .manufacture => 0
  | .develop => 8
  | .production => 0
  | .returned => 4

/-- What SEC_DEBUG_UNLOCK does. DEDUCED: a port that MANUFACTURE holds open needs no token, and RELOCK closes
only what a token opened (notes/assumptions/101). -/
def doDebugUnlock (e : Ctx) (s : State) : State × Answer :=
  let w := wd e.words 0
  let ans (st : Nat) (t : State) : State × Answer := (t, some (st, [mkW [(28, unlockOp w)], regSecStat t]))
  if e.port = .debug ∨ s.sec.life = .production then ans 6 s
  else if unlockOp w = 3 then ans 0 (if s.sec.debug = 1 then setDebug 0 s else s)
  else if s.sec.debug = 2 then ans 0 s
  else if tokenOk s (unlockSlots s) e.words then
    ans 0 (raise Ev.secDebugOpened [] (setDebug 1 (spendNonce s)))
  else ans 6 (tokenFails s)

/-- SEC_DEBUG_UNLOCK. -/
def execSecDebugUnlock (r : Req) (s : State) : Out := opcode 0x802 doDebugUnlock r s

/-! ## SEC_KEY_STATUS and SEC_ATTEST (R507, R508) -/

/-- SEC_KEY_STATUS: an empty owner slot shows 0. FREE VALUE: the keys (notes/assumptions/87). -/
def execSecKeyStatus (r : Req) (s : State) : Out :=
  opcode 0x803 (fun _ s =>
    (s, some (0, [regSecStat s, regSecKeys s] ++ (List.range 8).map fun k =>
      if k < 4 ∨ s.sec.ownerKeys.getLsbD (k - 4) = true then Config.keyDigest k else 0))) r s

/-- The report's signed bytes. -/
def reportBody (s : State) (nonce : List Word) : List Byte :=
  leBytes 4 0x52505441 ++ leBytes 8 s.sec.serial.toNat ++ [BitVec.ofNat 8 s.sec.life.code, BitVec.ofNat 8 s.sec.debug] ++
  leBytes 2 (2 * bn (s.sec.life == .manufacture) + bn (s.sec.life == .returned)) ++
  padTo 32 (wordsBytes nonce) ++ leBytes 4 s.log.powerOn.toNat ++
  wordsBytes [regGenFw s, regSecKeys s, w32 s.log.elapsed] ++ s.sec.m.toList.flatMap fun x => leBytes 48 x.toNat

/-- A report: 448 bytes, signed by the alias key but in RETURNED. FREE VALUE: the signature
(notes/assumptions/87). -/
def report (s : State) (nonce : List Word) : List Byte :=
  let b := reportBody s nonce
  b ++ padTo 96 (if s.sec.life = .returned then [] else Config.reportSig b)

/-- The certificates' length and bytes (notes/assumptions/87). -/
def certBytes : List Byte := (List.range (min 2128 Config.certLen)).map Config.certByte

/-- PART as applied. -/
def attestPart (w : Word) : Nat := nearestOf ([0, 1, 2, 3] ++ (List.range 19).map (· + 16)) (fld w 0 8)

/-- The reply of a part: the object's length and 112 bytes of it. -/
def partReply (part i : Nat) (b : List Byte) : Answer :=
  some (0, [w32 part, w32 b.length] ++ bytesWords (padTo 112 (b.drop (112 * i))))

/-- What SEC_ATTEST does. -/
def doAttest (e : Ctx) (s : State) : State × Answer :=
  let p := attestPart (wd e.words 0)
  if p = 0 then
    let b := report s ((e.words.drop 1).take 8)
    (s.onSec fun c => { c with reports := sput c.reports e.port.master.id b }, partReply 0 0 b)
  else if p ≤ 3 then
    match sget s.sec.reports e.port.master.id with
    | none => (s, some (2, [w32 p]))
    | some b => (s, partReply p p b)
  else (s, partReply p (p - 16) certBytes)

/-- SEC_ATTEST. -/
def execSecAttest (r : Req) (s : State) : Out := opcode 0x800 doAttest r s

end Sys2Proof.Machine
end

