-- ==== Sys2Proof/Machine/Steward.lean ====
section
/-! DEFINITION. Rack and row stewardship: referee, grants, takeover and drop, saved state, headroom and
caps, and the steward opcodes (R434 to R452). `b` is the channel: false A (rack), true B (row). -/

namespace Sys2Proof.Machine

/-! ## Terms, presence, preference (R434, R437, R438) -/

/-- TERM a is newer than TERM b (R437). -/
def termNewer (a b : Nat) : Bool :=
  let d := (a + 65536 - b % 65536) % 65536
  decide (1 ≤ d ∧ d ≤ 32767)

/-- The next TERM: it wraps at 65,536 and skips 0. -/
def nextTerm (t : Nat) : Nat := if (t + 1) % 65536 = 0 then 1 else (t + 1) % 65536

/-- A FORECAST from the node within the last 100 ms (R434). -/
def stewPresent (s : State) (b : Bool) (n : Nat) : Bool :=
  match sget (stewOf s b).heard n with
  | some h => youngerThan s 100000 h.at_
  | none => false

/-- A candidate that is eligible (R438). -/
def stewEligible (s : State) (b : Bool) (n : Nat) : Bool := !(stewOf s b).ineligible.contains n

/-- The standby: the most preferred present and eligible candidate other than the holder (R434). -/
def standbyOf (s : State) (b : Bool) : Option Nat :=
  (List.range 4).find? fun n => n != (stewOf s b).holder && stewPresent s b n && stewEligible s b n

/-- A GRANT of type 0 within the last second (R435). -/
def controllerHeard (s : State) (b : Bool) : Bool :=
  match (stewOf s b).grant0At with
  | some t => youngerThan s 1000000 t
  | none => false

/-- The package that R434 names referee is this one. -/
def refereeNamed (s : State) (b : Bool) : Bool :=
  let me := rowNode s b
  let first := [2, 3, 4].find? fun n =>
    (n == me || stewPresent s b n) && (if n = me then !(stewOf s b).grantHeld else n != (stewOf s b).holder)
  s.stew.cfg.en && s.lace.idValid && (!b || s.stew.a.grantHeld) && !controllerHeard s b && first == some me

/-- The SCHEMA of a GRANT (R450). -/
def grantSchema (s : State) (b : Bool) : Nat :=
  match (stewOf s b).schema1Forecast with
  | some t => if youngerThan s 10000000 t then 1 else 2
  | none => 2

/-- ROW_CTL.SEND_VER follows the lowest SCHEMA heard in GRANT in the last 10 s (R450). -/
def setSendVer (b : Bool) (s : State) : State :=
  let one := match (stewOf s b).grantSchema1 with
    | some t => youngerThan s 10000000 t
    | none => false
  onRowCh b (fun c => { c with sendVer := if one then 1 else 2 }) s

/-! ## Plant commands (R444, R448) -/

/-- PLANT_CMD's bytes beside VALUE: FLAGS, TERM and HOLDER. -/
def plantBytes (s : State) (b : Bool) (value : Nat) (fixed : Bool) : List Byte :=
  let c := stewOf s b
  leBytes 2 value ++ [0, BitVec.ofNat 8 ((rowCh s b).sendVer * 64 + bn fixed * 32)] ++ leBytes 2 c.term ++
    [BitVec.ofNat 8 c.holder, 0]

/-- A PLANT_CMD to a node, now and then at a period in ticks (R407); 0 where each STEWARD_STEP sends it. -/
def sendPlant (b : Bool) (n value period : Nat) (fixed : Bool) (s : State) : State :=
  match ensureObj b (0xC0 + n) true 8 (some 2) period s with
  | (some m, t) => queueHw b m (plantBytes s b value fixed) (onObj b m (fun o => { o with period := period }) t)
  | (none, t) => t

/-- The nodes of a channel's mask (R452). -/
def maskNodes (s : State) (b : Bool) : List Nat :=
  if b then (List.range 16).filter fun n => s.stew.cfg.bNodes.getLsbD n
  else (List.range 8).filter fun n => s.stew.cfg.aNodes.getLsbD n

/-- The loops of a grant: slot, input node, output node, SIGN (R444). -/
def stewLoops (b : Bool) : List (Nat × Nat × Nat × Bool) :=
  if b then [(28, 0, 0, true), (29, 1, 1, false), (30, 1, 2, true)] else [(24, 0, 0, true)]

/-- The slots of a grant. -/
def stewSlots (b : Bool) : List Nat := if b then [28, 29, 30, 31] else [24, 25, 26, 27]

/-- The nodes that no loop of the grant drives. -/
def fixedNodes (s : State) (b : Bool) : List Nat :=
  (maskNodes s b).filter fun n => !(stewLoops b).any fun l => l.2.2.1 == n

/-- Every other node of the mask receives FIXED_CMD (R444). -/
def sendFixed (b : Bool) (s : State) : State :=
  (fixedNodes s b).foldl (fun s n => sendPlant b n s.stew.cfg.fixedCmd 0 true s) s

/-- PLANT_CMD to the nodes that loops drive, with the outputs as applied. -/
def sendLoops (b : Bool) (s : State) : State :=
  (stewLoops b).foldl (fun s l => sendPlant b l.2.2.1 (slotOf s l.1).out 1000 false s) s

/-- The FLAGS, TERM and HOLDER of the commands that loops drive, as they stand now; their values stay (R448). -/
def refreshLoops (b : Bool) (s : State) : State :=
  (stewLoops b).foldl (fun s l =>
    match ensureObj b (0xC0 + l.2.2.1) true 8 (some 2) 1000 s with
    | (some m, t) =>
      onObj b m (fun o => { o with data := o.data.take 3 ++ (plantBytes s b 0 false).drop 3 ++ o.data.drop 8 }) t
    | (none, t) => t) s

/-! ## Targets (R444) -/

/-- Σ of a field over the FORECASTs of a channel heard within 100 ms, in W. -/
def heardSum (s : State) (b : Bool) (g : Heard → Nat) : Nat :=
  (((stewOf s b).heard.filter fun x => youngerThan s 100000 x.2.at_).map fun x => g x.2).foldl (· + ·) 0

/-- The forecast term in 0.1 kPa: DP_FF × max(0, F1 − MEAS_W) ÷ 10, the sums in kW. FREE VALUE: its rounding
(notes/assumptions/40). -/
def forecastTerm (s : State) (b : Bool) : Int :=
  let d := heardSum s b (fun h => h.fs.getD 1 0) - heardSum s b fun h => h.measW
  quant ((s.stew.cfg.dpFf * d : Nat) / 10000)

/-- The TARGET of a steward slot. -/
def stewTarget (s : State) (i : Nat) : Int :=
  let c := s.stew.cfg
  if i = 24 then (c.rackDp : Int) + forecastTerm s false
  else if i = 28 then (c.cduDp : Int) + forecastTerm s true
  else if i = 29 then c.supply
  else (c.supply : Int) - 128

/-- The targets of the loops of a grant, in the 16 bits of a TARGET. -/
def setTargets (b : Bool) (s : State) : State :=
  (stewLoops b).foldl (fun s l =>
    onSlot l.1 (fun x => { x with target := clampI (-32768) 32767 (stewTarget s l.1) }) s) s

/-! ## Saved state (R441) -/

/-- A slot's record of 20 bytes. -/
def slotRecord (s : State) (i : Nat) : List Byte :=
  let x := slotOf s i
  [BitVec.ofNat 8 x.mode.code, 0] ++ leBytes 2 (ofInt 16 x.target) ++ leBytes 4 (ofInt 32 (x.r.fdiv (2 ^ 32))) ++
    leBytes 4 (ofInt 32 (rne x.i 27)) ++ leBytes 2 x.next ++ leBytes 2 x.out ++
    [BitVec.ofNat 8 (min 50 x.periods), 0, 0, 0]

/-- The first bytes of a segment. -/
def segHead (s : State) (b : Bool) : List Byte :=
  [BitVec.ofNat 8 ((rowCh s b).sendVer * 64), 0] ++ leBytes 2 (stewOf s b).term ++ [s.stew.pushNo]

/-- Core segment k. -/
def coreSegment (s : State) (b : Bool) (k : Nat) : List Byte :=
  padTo 48 (segHead s b ++ 0#8 :: (slotRecord s (24 + 2 * k) ++ slotRecord s (25 + 2 * k)))

/-- The table segments of the enabled steward slots: slot and first entry, ten entries each. -/
def tableChunks (s : State) : List (Nat × Nat) :=
  (List.range 8).flatMap fun j =>
    let x := slotOf s (24 + j)
    if x.steward && x.repEn then (List.range ((x.repLen + 9) / 10)).map fun i => (j, 10 * i) else []

/-- A table segment. -/
def tableSegment (s : State) (b : Bool) (c : Nat × Nat) : List Byte :=
  let t := (slotOf s (24 + c.1)).table
  padTo 48 (segHead s b ++ BitVec.ofNat 8 c.1 :: (leBytes 2 c.2 ++
    (List.range 10).flatMap fun i => leBytes 4 (ofInt 32 (t.getD (c.2 + i) 0))))

/-- Segments 0 to 7 of a push queued on a channel. -/
def sendSegments (b : Bool) (s : State) : State :=
  let l := tableChunks s
  let n := max 1 l.length
  let segs := (List.range 4).map (coreSegment s b) ++
    (List.range 4).map fun k => tableSegment s b (l.getD ((s.stew.tablePos + k) % n) (0, 0))
  (List.range 8).foldl (fun s k => sendMsg b (0x200 + k) 14 1 (segs.getD k []) s) s

/-- A push on the channels of the grants held: PUSH counts, and the tables step on by 40 entries. -/
def pushState (s : State) : State :=
  if s.stew.a.grantHeld || s.stew.b.grantHeld then
    let s1 := s.onStew fun w => { w with pushNo := w.pushNo + 1 }
    let s2 := (s1.whenB s.stew.a.grantHeld (sendSegments false)).whenB s.stew.b.grantHeld (sendSegments true)
    s2.onStew fun w => { w with tablePos := (w.tablePos + 4) % max 1 (tableChunks s).length }
  else s

/-- STATE_PUSH. -/
def execStatePush (s : State) : Out := live s (pushState s)

/-- A core segment received: with the PUSH and TERM of the push under way it joins it, else it begins
another; four of them complete it. -/
def takeCore (k : Nat) (d : List Byte) (s : State) : State :=
  let term := leNat ((d.drop 2).take 2)
  let no := (d.getD 4 0).toNat
  s.onStew fun w =>
    let base : Push := if w.partPush.push = no ∧ w.partPush.term = term then w.partPush
                       else { push := no, term := term }
    let p := { base with segs := sput base.segs k d }
    if p.segs.length = 4 then { w with partPush := p, push := some p, pushAt := some s.log.elapsed }
    else { w with partPush := p }

/-- The ten entries of a table segment stored. -/
def putEntries (d : List Byte) (j o : Nat) (t : SMap Int) : SMap Int :=
  (List.range 10).foldl (fun t i =>
    if o + i < 4096 then sput t (4096 * j + o + i) (sext 32 (leNat ((d.drop (8 + 4 * i)).take 4))) else t) t

/-- A table segment received. -/
def takeTable (d : List Byte) (s : State) : State :=
  let j := (d.getD 5 0).toNat % 8
  let o := leNat ((d.drop 6).take 2)
  s.onStew fun w => { w with tables := putEntries d j o w.tables }

/-- STATE: a candidate that does not hold the grant stores what it receives. -/
def execState (b : Bool) (segment : Fin 8) (data : List Byte) (s : State) : Out :=
  live s
    (if rowLive s b && rowNode s b < 4 && s.stew.cfg.en && !(stewOf s b).grantHeld then
       if segment.val < 4 then takeCore segment.val data s else takeTable data s
     else s)

/-- The last complete push is at most 1 s old. -/
def pushFresh (s : State) : Bool :=
  match s.stew.pushAt with
  | some t => s.stew.push.isSome && youngerThan s 1000001 t
  | none => false

/-- The saved record of steward slot i. -/
def savedRecord (s : State) (i : Nat) : List Byte :=
  match s.stew.push with
  | none => []
  | some p => (((sget p.segs ((i - 24) / 2)).getD []).drop (6 + 20 * ((i - 24) % 2))).take 20

/-! ## Takeover and drop (R437, R442) -/

/-- The command that a plant node reports as applied. -/
def appliedAt (s : State) (b : Bool) (n : Nat) : Nat := ((sget (stewOf s b).plants n).map fun x => x.2.2.1).getD 0x8000

/-- The object index of a slot's input or output on a channel. -/
def objIndex (b : Bool) (m : Option Nat) : Nat := (if b then 128 else 0) + m.getD 0

/-- A slot of a loop as a takeover configures it: TARGET, r and table from a push at most 1 s old with the
saved output held, else the command that the node reports. -/
def takenSlot (s : State) (i applied : Nat) (x : Slot) : Slot :=
  let d := savedRecord s i
  if pushFresh s then
    let u := leNat ((d.drop 12).take 2)
    { x with target := sext 16 (leNat ((d.drop 2).take 2)), r := sext 32 (leNat ((d.drop 4).take 4)) * 2 ^ 32
             v := 0, a := 0, out := u, next := u, u := (u : Int) * 512
             savedI := some (sext 32 (leNat ((d.drop 8).take 4)))
             periods := (d.getD 16 0).toNat, lastF := repIndex s x
             table := (List.range x.repLen).map fun j => (sget s.stew.tables (4096 * (i - 24) + j)).getD 0 }
  else { x with out := applied, next := applied, u := (applied : Int) * 512, savedI := none, table := [], periods := 0
                lastF := repIndex s x }

/-- One loop of a grant configured and closed at the next tick. -/
def takeLoop (b : Bool) (l : Nat × Nat × Nat × Bool) (s : State) : State :=
  let r1 := ensureObj b (0x100 + l.2.1) false 8 (some 2) 0 s
  let r2 := ensureObj b (0xC0 + l.2.2.1) true 8 (some 2) 1000 r1.2
  onSlot l.1 (fun x =>
    { takenSlot s l.1 (appliedAt s b l.2.2.1) x with
      inKind := 4, inIndex := objIndex b r1.1, outKind := 4, outIndex := objIndex b r2.1, sign := l.2.2.2
      steward := true, mode := .openHold, pendMode := some .closed, plausHold := true, fault := false }) (endTestOf l.1 r2.2)

/-- A slot of a grant that no loop uses. -/
def idleLoop (i : Nat) (s : State) : State :=
  onSlot i (fun x => { x with inKind := 0, inIndex := 0, outKind := 0, outIndex := 0, steward := true
                              mode := .openHold, pendMode := none }) (endTestOf i s)

/-- HS_STATE shows a grant (R195, R437). -/
def showGrant (b v : Bool) (s : State) : State := setHealth (putBit s.health.state (if b then 2 else 3) v) s

/-- The instant of a GRANT, from which the checks of R439 count, and the nodes that they ask. -/
def noteGrant (b : Bool) (s : State) : State :=
  onStewCh b (fun c => { c with grantAt := s.log.elapsed
                                checkNodes := (c.plants.filter fun x => youngerThan s 1000001 x.2.1).map fun x => x.1 }) s

/-- A package takes over a grant (R442). -/
def takeOver (b : Bool) (s0 : State) : State :=
  let s := noteGrant b s0
  let s1 := ((stewSlots b).filter fun i => !(stewLoops b).any fun l => l.1 == i).foldl (fun s i => idleLoop i s) s
  let s2 := (stewLoops b).foldl (fun s l => takeLoop b l s) s1
  let s3 := showGrant b true (onStewCh b (fun c => { c with grantHeld := true, referee := false, takeback := none }) s2)
  let s4 := setMaster b true (setXcvr true s3)
  let s5 := sendFixed b (sendLoops b s4)
  let c := stewOf s5 b
  let s6 := sendSteward b { type := 4, schema := (rowCh s5 b).sendVer, term := c.term, holder := c.holder
                            sender := rowNode s5 b, reason := 0 } s5
  raise Ev.stewardTakeover [] s6

/-- A send object that a drop stops: PLANT_CMD, LIMIT, STATE. -/
def stewObj (o : Obj) : Bool :=
  o.send && ((0xC0 ≤ o.ident && o.ident < 0x100) || (0x140 ≤ o.ident && o.ident < 0x148) ||
    (0x200 ≤ o.ident && o.ident < 0x240))

/-- A stopped object: a frame on the bus completes (R451). -/
def stopObj (o : Obj) : Obj :=
  if stewObj o then
    { o with period := 0, tx := if o.tx == .pending then .cancelled else o.tx
             cancelMark := o.cancelMark || o.tx == .onBus, next := none }
  else o

/-- The objects of the dropped grant stop. -/
def stopObjs (b : Bool) (s : State) : State := onRowCh b (fun c => { c with objs := c.objs.map stopObj }) s

/-- A slot that is no longer a steward slot. -/
def freedSlot (x : Slot) : Slot := { x with steward := false, mode := .openHold, pendMode := none, closing := false }

/-- One grant is given up (R437). -/
def dropOne (b : Bool) (s : State) : State :=
  let s1 := setMaster b false (stopObjs b s)
  let s2 := (stewSlots b).foldl (fun s i => onSlot i freedSlot (endTestOf i s)) s1
  raise Ev.stewardRelease [] (showGrant b false (onStewCh b (fun c => { c with grantHeld := false }) s2))

/-- A grant is dropped; the rack grant takes the row grant with it, RELEASE going out on channel B before its
transceiver leaves (R396, R434, R451). -/
def dropGrant (b : Bool) (s : State) : State :=
  if b then dropOne true s
  else
    let s1 := if s.stew.b.grantHeld then dropOne true (sendRelease true 7 s) else s
    setXcvr true (dropOne false s1)

/-- The package may hold the grant (R434). -/
def mayHold (s : State) (b : Bool) : Bool :=
  s.stew.cfg.en && s.lace.idValid && decide (rowNode s b < 4) && (!b || s.stew.a.grantHeld)

/-- What the holder named by a GRANT means for this package. -/
def follow (b : Bool) (newer : Bool) (s : State) : State :=
  let c := stewOf s b
  if c.holder = rowNode s b then (if !c.grantHeld && mayHold s b then takeOver b s else s)
  else if c.grantHeld && newer then dropGrant b s
  else s

/-! ## The referee (R435 to R439, R443) -/

/-- The GRANT that the referee sends. -/
def sendGrant (b : Bool) (reason : Nat) (s : State) : State :=
  let c := stewOf s b
  let v := grantSchema s b
  let s1 := onStewCh b (fun c =>
    { c with grantSchema1 := if v = 1 then some s.log.elapsed else c.grantSchema1
             grantSchema2 := if v = 2 then some s.log.elapsed else c.grantSchema2 }) s
  setSendVer b (sendSteward b { type := 1, schema := v, term := c.term, holder := c.holder
                                sender := rowNode s b, reason := reason } s1)

/-- The referee grants a candidate with a new TERM. -/
def grantTo (b : Bool) (n reason : Nat) (s : State) : State :=
  let s1 := onStewCh b (fun c => { c with term := nextTerm c.term, holder := n, takeback := none }) (noteGrant b s)
  follow b true (sendGrant b reason s1)

/-- The referee grants the standby, if there is one. -/
def grantStandby (b : Bool) (reason : Nat) (s : State) : State :=
  match standbyOf s b with
  | some n => grantTo b n reason s
  | none => s

/-- A candidate is not eligible. -/
def bar (b : Bool) (n : Nat) (s : State) : State := onStewCh b (fun c => { c with ineligible := addSorted c.ineligible n }) s

/-- GRANT: a GRANT is heard (R435, R437, R443, R450). -/
def execGrant (b : Bool) (g : StewMsg) (s : State) : Out :=
  let c := stewOf s b
  let newer := termNewer g.term c.term || c.term == 0
  let now := some s.log.elapsed
  let s1 := setSendVer b (onStewCh b (fun c =>
    { c with grant0At := if g.type = 0 then now else c.grant0At
             grant1At := if g.type = 0 then c.grant1At else now
             grantSchema1 := if g.schema = 1 then now else c.grantSchema1
             grantSchema2 := if g.schema = 1 then c.grantSchema2 else now
             referee := c.referee && !(g.type == 0 || newer) }) s)
  let s2 := follow b newer
    (onStewCh b (fun c => { c with term := g.term, holder := g.holder }) (s1.whenB newer (noteGrant b)))
  live s
    (if !rowLive s b then s
     else if !newer && g.term != c.term then s1
     else if g.reason = 5 ∧ g.holder = rowNode s b ∧ (stewOf s2 b).grantHeld then sendRelease b 6 (pushState s2)
     else s2)

/-- REQUEST: the referee answers with a GRANT that keeps the holder and carries REASON 0x05 (R443). -/
def execRequest (b : Bool) (g : StewMsg) (s : State) : Out :=
  let c := stewOf s b
  let preferred := (List.range 4).find? fun n => n == g.sender || stewPresent s b n
  live s
    (if rowLive s b && c.referee && c.holder != 0x3F && c.holder != g.sender && preferred == some g.sender &&
        stewEligible s b g.sender then
       sendGrant b 5 (onStewCh b (fun c => { c with takeback := some g.sender }) s)
     else s)

/-- What a RELEASE makes of its sender's eligibility (R438). -/
def releaseBars (reason : Nat) : Bool := reason == 3 || reason == 4

/-- RELEASE: the referee grants the requester of a takeback, or the standby, when the holder releases
(R438, R439, R443, R451). -/
def execRelease (b : Bool) (g : StewMsg) (s : State) : Out :=
  let c := stewOf s b
  let s1 := s.whenB (releaseBars g.reason) (bar b g.sender)
  live s
    (if !rowLive s b then s
     else if c.referee && c.holder == g.sender then
       match g.reason, c.takeback with
       | 6, some n => grantTo b n 6 s1
       | 4, _ => grantStandby b 4 (raise Ev.stewardLatentFault [(1, g.sender)] s1)
       | r, _ => grantStandby b r s1
     else s1)

/-- TAKEN: the new holder's announcement; the spec gives its receivers nothing to do. -/
def execTaken (_ : Bool) (_ : StewMsg) (s : State) : Out := live s s

/-- FAILSAFE: a Toecap expiry of the source, a self-declared fault (R26, R438). -/
def execFailsafe (b : Bool) (source : Fin 64) (forced : Bool) (s : State) : Out :=
  let c := stewOf s b
  live s
    (if rowLive s b && forced then
       let s1 := bar b source.val s
       if c.referee && c.holder == source.val then grantStandby b 3 s1 else s1
     else s)

/-- HEARTBEAT_LOST: no REF start of frame from the holder for 30.5 ms; a REQUEST open then is discarded
(R438, R451). -/
def execHeartbeatLost (b : Bool) (s : State) : Out :=
  let c := stewOf s b
  live s
    (if c.referee && c.holder != 0x3F then
       grantStandby b 2 (onStewCh b (fun c => { c with takeback := none }) s)
     else s)

/-- REFEREE_START: the package has been the named one for 1 s (R435). -/
def execRefereeStart (b : Bool) (s : State) : Out :=
  live s (if refereeNamed s b then onStewCh b (fun c => { c with referee := true }) s else s)

/-- INITIAL_GRANT: a package referee without a holder grants the most preferred present candidate 2 s after
it begins acting (R437). -/
def execInitialGrant (b : Bool) (s : State) : Out :=
  live s (if (stewOf s b).referee && (stewOf s b).holder == 0x3F then grantStandby b 1 s else s)

/-- A frame has come on channel B since the GRANT of the rack (R439). -/
def heardRow (s : State) : Bool := s.row.b.lastFrame.any fun t => decide (s.stew.a.grantAt ≤ t)

/-- Every plant node that the check asks reports the TERM of the GRANT (R439). -/
def nodesFollow (s : State) (b : Bool) : Bool :=
  (stewOf s b).checkNodes.all fun n => (sget (stewOf s b).plants n).any fun x => x.2.2.2 == (stewOf s b).term

/-- LATENT_FAULT_CHECK: 200 ms after a GRANT. The grantee of a rack grant that has received no frame on
channel B releases; the referee acts on plant nodes that do not report the new TERM (R439). -/
def execLatentFaultCheck (b : Bool) (s : State) : Out :=
  let c := stewOf s b
  live s
    (if c.grantHeld && !b && !heardRow s then
       raise Ev.stewardLatentFault [(1, rowNode s b)] (bar b (rowNode s b) (sendRelease b 4 s))
     else if c.referee && c.holder != 0x3F && !nodesFollow s b then
       grantStandby b 4 (raise Ev.stewardLatentFault [(1, c.holder)] (bar b c.holder s))
     else s)

/-- The channels of a takeback are LOCKED and error-active (R443). -/
def channelFit (s : State) (b : Bool) : Bool := (rowCh s b).locked && (rowCh s b).st == .active

/-- TAKEBACK_REQUEST: the most preferred candidate, healthy for 60 s, sends REQUEST (R443). -/
def execTakebackRequest (b : Bool) (s : State) : Out :=
  let c := stewOf s b
  let me := rowNode s b
  let first := (List.range 4).find? fun n => n == me || stewPresent s b n
  live s
    (if mayHold s b && !c.grantHeld && first == some me && s.isl.fwRun && !s.isl.forced && channelFit s false &&
        (!b || channelFit s true) && pushFresh s && stewEligible s b me then
       sendSteward b { type := 2, schema := (rowCh s b).sendVer, term := c.term, holder := c.holder, sender := me
                       reason := 5 } s
     else s)

/-- TAKEBACK_RELEASE_TIMEOUT: without RELEASE within 200 ms the requester is granted all the same (R443). -/
def execTakebackReleaseTimeout (b : Bool) (s : State) : Out :=
  live s
    (match (stewOf s b).takeback with
     | some n => if (stewOf s b).referee then grantTo b n 6 s else s
     | none => s)

/-- CANDIDATE_ELIGIBLE: 60 s have passed (R438). -/
def execCandidateEligible (b : Bool) (cand : Fin 64) (s : State) : Out :=
  live s (onStewCh b (fun c => { c with ineligible := c.ineligible.filter fun n => n != cand.val }) s)

/-! ## Headroom and caps (R445 to R447) -/

/-- The demand of a member in W: the largest of F0 to F3; silent for 60 ms it counts as `silent`, and for 1 s
as absent (R445, R446). -/
def demandOf (s : State) (b : Bool) (silent n : Nat) : Nat :=
  match sget (stewOf s b).heard n with
  | none => 0
  | some h =>
    if youngerThan s 60000 h.at_ then ((List.range 4).map fun i => h.fs.getD i 0).foldl max 0
    else if youngerThan s 1000000 h.at_ then silent else 0

/-- The supply temperature: the input of slot 29. -/
def supplyTemp (s : State) : Int := slotInput s (slotOf s 29)

/-- 512 × d (R445). -/
def derate512 (s : State) : Nat :=
  let above := supplyTemp s - (s.stew.cfg.supply : Int) - 64
  if above ≤ 0 then 512 else if 256 ≤ above then 256 else 512 - above.toNat

/-- 512 × Q in W (R445). -/
def rowCapacity512 (s : State) : Nat := s.stew.cfg.rowCap * 1000 * derate512 s

/-- Rack r's entry (R445). -/
def rackEntryOf (s : State) (r : Nat) : Nat :=
  let w := fun n => demandOf s true 102400 n
  let t := ((List.range 32).map w).foldl (· + ·) 0
  if 512 * t ≤ rowCapacity512 s then 0xFFFF
  else max 400 (rowCapacity512 s * w r / (512 * t * 64))

/-- H in W (R446). -/
def rackCapacity (s : State) : Nat :=
  let cap := 100 * s.stew.cfg.rackCap
  let fresh := match s.stew.rackEntryAt with
    | some t => youngerThan s 1000000 t
    | none => false
  if fresh && s.stew.rackEntry != 0xFFFF then min cap (64 * s.stew.rackEntry) else cap

/-- Slot n's entry (R446). -/
def slotEntryOf (s : State) (n : Nat) : Nat :=
  let w := fun n => demandOf s false 1600 n
  let t := ((List.range 64).map w).foldl (· + ·) 0
  if t ≤ rackCapacity s then 0xFFFF else min 1600 (max 400 (rackCapacity s * w n / t))

/-- The package's own entry of a LIMIT (R415, R445, R447). -/
def takeLimit (b : Bool) (group : Nat) (entries : List Nat) (s : State) : State :=
  if rowNode s b / 8 ≠ group then s
  else
    let v := entries.getD (rowNode s b % 8) 0xFFFF % 65536
    if b then s.onStew fun w => { w with rackEntry := v, rackEntryAt := some s.log.elapsed }
    else (s.onPwr fun p => { p with stewardW := v }).onStew fun w => { w with limitAt := some s.log.elapsed }

/-- LIMIT. -/
def execLimit (b : Bool) (group : Fin 8) (entries : List Nat) (s : State) : Out :=
  live s (s.whenB (rowLive s b) (takeLimit b group.val entries))

/-- STEWARD_CAP_LOST: no LIMIT for the own group for 1 s; none is missed before the first (R447). -/
def execStewardCapLost (s : State) : Out :=
  live s
    (if s.stew.limitAt.isSome then
       raise Ev.stewardCapLost []
         ((s.onPwr fun p => { p with stewardW := 1200 }).onStew fun w => { w with limitAt := none })
     else s)

/-- The LIMIT frame of a group, sent and taken by the sender's own package. -/
def sendLimit (b : Bool) (g : Nat) (s : State) : State :=
  let l := (List.range 8).map fun i => if b then rackEntryOf s (8 * g + i) else slotEntryOf s (8 * g + i)
  let d := BitVec.ofNat 8 ((rowCh s b).sendVer * 64) :: 0#8 :: l.flatMap (leBytes 2)
  takeLimit b g l (sendMsg b (0x140 + g) 11 1 d s)

/-! ## The 100 ms step (R435, R444 to R446, R452) -/

/-- A STEWARD_CONFIG takes effect; EN cleared while a grant is held releases it (R451, R452). -/
def configStep (s : State) : State :=
  match s.stew.pendCfg with
  | none => s
  | some c =>
    let off := s.stew.cfg.en && !c.en
    let s1 := s.whenB (off && s.stew.b.grantHeld) (sendRelease true 6)
    let s2 := s1.whenB (off && s.stew.a.grantHeld) (sendRelease false 6)
    s2.onStew fun w => { w with cfg := c, pendCfg := none }

/-- What each channel's role does every 100 ms: a package that R434 no longer names stops acting as referee;
a referee repeats its GRANT; a steward sets its targets and sends LIMIT and FIXED_CMD. -/
def roleStep (b : Bool) (s : State) : State :=
  let s1 := setSendVer b (onStewCh b (fun c => { c with referee := c.referee && refereeNamed s b }) s)
  let s2 := s1.whenB (stewOf s1 b).referee (sendGrant b 0)
  if (stewOf s2 b).grantHeld then
    let s3 := sendFixed b (refreshLoops b (setTargets b s2))
    (List.range (if b then 4 else 8)).foldl (fun s g => sendLimit b g s) s3
  else s2

/-- STEWARD_STEP: the row's role first, so that its headroom counts in the rack's caps. -/
def execStewardStep (s : State) : Out := live s (roleStep false (roleStep true (configStep s)))

/-! ## Opcodes (R452) -/

/-- The push age in 10 ms. -/
def pushAge (s : State) : Nat :=
  match s.stew.pushAt with
  | some t => min 0xFFFF ((s.log.elapsed - t) / 10000)
  | none => 0xFFFF

/-- STEWARD_STATUS. -/
def execStewardStatus (r : Req) (s : State) : Out :=
  opcode 0x250 (fun _ s =>
    let a := s.stew.a
    let b := s.stew.b
    (s, some (0, [mkW [(16, a.term), (4, a.holder % 64), (3, bn a.referee), (2, bn a.grantHeld), (1, bn b.grantHeld),
                       (0, bn (pushFresh s))],
                  mkW [(16, b.term), (4, b.holder % 64), (3, bn b.referee)],
                  mkW [(16, s.stew.rackEntry), (0, pushAge s)]]))) r s

/-- The configuration of STEWARD_CONFIG's words, clamped (R208). -/
def cfgOf (ws : List Word) : StewCfg :=
  let w1 := wd ws 0; let w2 := wd ws 1; let w3 := wd ws 2; let w4 := wd ws 3; let w5 := wd ws 4
  { en := bitOf w1 31, aNodes := BitVec.ofNat 8 (fld w1 16 8), rackCap := clampN 154 1024 (fld w1 0 16)
    bNodes := BitVec.ofNat 16 (fld w2 16 16), rowCap := clampN 16 3277 (fld w2 0 16)
    rackDp := min 4000 (fld w3 16 16), cduDp := min 4000 (fld w3 0 16)
    supply := clampN 960 2880 (fld w4 16 16), fixedCmd := min 0x8000 (fld w4 0 16), dpFf := min 1000 (fld w5 0 16) }

/-- The words of a configuration. -/
def cfgWords (c : StewCfg) : List Word :=
  [mkW [(31, bn c.en), (16, c.aNodes.toNat), (0, c.rackCap)], mkW [(16, c.bNodes.toNat), (0, c.rowCap)],
   mkW [(16, c.rackDp), (0, c.cduDp)], mkW [(16, c.supply), (0, c.fixedCmd)], w32 c.dpFf]

/-- STEWARD_CONFIG. -/
def execStewardConfig (r : Req) (s : State) : Out :=
  opcode 0x251 (fun e s =>
    let c := cfgOf e.words
    (s.onStew fun w => { w with pendCfg := some c }, some (0, cfgWords c))) r s

end Sys2Proof.Machine
end

