-- ==== Sys2Proof/Machine/Bus.lean ====
section
/-! DEFINITION. The register map over PCIe, the tray bus and the internal masters, and the HBM aperture (R4,
R15 to R20, R187 to R193, R234, R245, R255 to R257). -/

namespace Sys2Proof.Machine

/-! ## The map of R15 -/

/-- The domain that backs the block of an offset is powered (R15, R17). -/
def blockOn (s : State) (off : Nat) : Bool :=
  if 0x00010000 ≤ off ∧ off < 0x00020000 then mgmtOn s
  else if 0x00080000 ≤ off ∧ off < 0x00100000 then mgmtOn s
  else if 0x00100000 ≤ off ∧ off < 0x00200000 then computeOn s
  else if 0x00200000 ≤ off ∧ off < 0x00400000 then computeOn s && opticalOn s
  else if 0x00400000 ≤ off ∧ off < 0x00800000 then computeOn s && railUp s 2
  else if 0x00800000 ≤ off then mgmtOn s
  else true

/-- The data function reaches only MBX and LOCK of the map (R187). -/
def dataFnOnly (m : Master) (off : Nat) : Bool := m == .hostData && (decide (off < 0x2000) || decide (0x4000 ≤ off))

/-- The value of an aligned offset of the map for a master. Reserved ranges read 0 (R16), and the debug port
cannot reach the SEC block (R504). -/
def regMap (s : State) (m : Master) (off : Nat) : Word :=
  if dataFnOnly m off = true then 0
  else if off < 0x1000 then
    (if off = 0x00 then regGenId else if off = 0x04 then regGenIfver else if off = 0x08 then regGenFw s
     else if off = 0x0C then regGenCap s else if off = 0x10 then regSerialLo s
     else if off = 0x14 then regSerialHi s else 0)
  else if off < 0x1400 then (if m = .hostCtl then regWindow s .host (off - 0x1000) else 0)
  else if off < 0x2000 then 0
  else if off < 0x3000 then regMbx s m (off - 0x2000)
  else if off < 0x4000 then regLock s (off - 0x3000)
  else if off < 0x10000 then 0
  else if off < 0x20000 then regPwr s (off - 0x10000)
  else if off < 0x30000 then regIsl s (off - 0x20000)
  else if off < 0x40000 then regCtl s (off - 0x30000)
  else if off < 0x50000 then regVlv s (off - 0x40000)
  else if off < 0x60000 then regWelt s (off - 0x50000)
  else if off < 0x70000 then regRow s (off - 0x60000)
  else if off < 0x80000 then regTime s m.id (off - 0x70000)
  else if off < 0x100000 then regLog s (off - 0x80000)
  else if off < 0x180000 then regLast s (off - 0x100000)
  else if off < 0x1A0000 then regCore s (off - 0x180000)
  else if off < 0x200000 then 0
  else if off < 0x400000 then regLace s (off - 0x200000)
  else if off < 0x800000 then regMem s (off - 0x400000)
  else if m = .debug then 0
  else regSec s (off - 0x800000)

/-- A write to an aligned offset of the map by a master. SEC has no writable register (R506). -/
def mapWrite (m : Master) (off : Nat) (be : BitVec 4) (w : Word) (s : State) : State :=
  if off < 0x1000 then s
  else if off < 0x1400 then (if m = .hostCtl then windowWrite .host (off - 0x1000) be w s else s)
  else if off < 0x2000 then s
  else if off < 0x3000 then mbxWrite m (off - 0x2000) be w s
  else if off < 0x4000 then lockBlockWrite m (off - 0x3000) be w s
  else if off < 0x10000 then s
  else if off < 0x20000 then pwrWrite (off - 0x10000) be w s
  else if off < 0x30000 then islWrite m (off - 0x20000) be w s
  else if off < 0x40000 then ctlWrite (off - 0x30000) be w s
  else if off < 0x50000 then vlvWrite (off - 0x40000) be w s
  else if off < 0x60000 then weltWrite (off - 0x50000) be w s
  else if off < 0x70000 then rowWrite m (off - 0x60000) be w s
  else if off < 0x80000 then s
  else if off < 0x100000 then logWrite (off - 0x80000) be w s
  else if off < 0x180000 then lastWrite (off - 0x100000) be w s
  else if off < 0x1A0000 then coreWrite (off - 0x180000) be w s
  else if off < 0x200000 then s
  else if off < 0x400000 then laceWrite (off - 0x200000) be w s
  else if off < 0x800000 then memWrite (off - 0x400000) be w s
  else s

/-- How an access to a block without power ends: Completer Abort on PCIe, an error elsewhere (R17). -/
def offEnd : Master → BusEnd
  | .hostCtl => .completerAbort
  | .hostData => .completerAbort
  | _ => .err

/-! ## The MSI-X structures (R187) -/

/-- Where the offsets of REGISTER_WRITE that name a function's MSI-X BAR begin, behind the 16 MiB of BAR0: the
model's own numbering (notes/assumptions/138). -/
def msixBase : Nat := 0x1000000

/-- A function's table entries. -/
def msixOf (s : State) (data : Bool) : List Msix := if data then s.port.msix1.toList else s.port.msix0.toList

/-- Word k of a table entry: address, data and vector control. PRESUMED (notes/assumptions/138). -/
def msixWord (x : Msix) (k : Nat) : Word :=
  if k = 0 then w32 x.addr.toNat else if k = 1 then hi32 x.addr.toNat else if k = 2 then x.data else w32 (bn x.masked)

/-- A read of a function's MSI-X BAR: the table from 0x000, the pending bits at 0x800. -/
def regMsix (s : State) (data : Bool) (off : Nat) : Word :=
  let l := msixOf s data
  if off < 16 * l.length then msixWord (l.getD (off / 16) {}) (off % 16 / 4)
  else if off = 0x800 then mkW ((List.range l.length).map fun i => (i, bn (l.getD i {}).pending))
  else 0

/-- A table entry with word k written; unmasking sends what is pending. -/
def msixPut (k : Nat) (be : BitVec 4) (w : Word) (x : Msix) : Msix :=
  let v := wRW 0xFFFFFFFF#32 (msixWord x k) w be
  if k = 0 then { x with addr := BitVec.ofNat 64 (v.toNat / 4 * 4 + 2 ^ 32 * (hi32 x.addr.toNat).toNat) }
  else if k = 1 then { x with addr := BitVec.ofNat 64 ((w32 x.addr.toNat).toNat + 2 ^ 32 * v.toNat) }
  else if k = 2 then { x with data := v }
  else { x with masked := bitOf v 0, pending := x.pending && bitOf v 0 }

/-- A write to a function's MSI-X BAR. -/
def msixWrite (data : Bool) (off : Nat) (be : BitVec 4) (w : Word) (s : State) : State :=
  if off < 0x800 then
    s.onPort fun b =>
      if data then { b with msix1 := vmod b.msix1 (off / 16) (msixPut (off % 16 / 4) be w) }
      else { b with msix0 := vmod b.msix0 (off / 16) (msixPut (off % 16 / 4) be w) }
  else s

/-- The device and class of a function; the vendor identifier is Tobevik's. FREE VALUE: its number (R187,
notes/assumptions/138). -/
def functionId (data : Bool) : Word := mkW [(16, if data then 0x4097 else 0x4096), (0, Config.vendorId % 65536)]
def functionClass : Nat := 0x120000

/-! ## Accesses by the masters -/

/-- A master's offset names its MSI-X BAR. -/
def atMsix (m : Master) (off : Nat) : Bool := (m == .hostCtl || m == .hostData) && decide (msixBase ≤ off)

/-- A read through the map of R15: how it ends, and its value (R16, R17, R187). -/
def busRead (s : State) (m : Master) (off : Nat) : BusEnd × Word :=
  if atMsix m off then (.ok, regMsix s (m == .hostData) (off - msixBase))
  else if dataFnOnly m off || blockOn s off then (.ok, regMap s m off)
  else (offEnd m, 0)

/-- A write through the map of R15, or for the data function through its MBX and LOCK blocks (R17, R187). -/
def busWrite (m : Master) (off : Nat) (be : BitVec 4) (w : Word) (s : State) : State :=
  if atMsix m off then msixWrite (m == .hostData) (off - msixBase) be w (answered [] .ok s)
  else if dataFnOnly m off then answered [] .ok s
  else if blockOn s off then mapWrite m off be w (answered [] .ok s)
  else answered [] (offEnd m) s

/-! ## The tray window (R19, R20) -/

/-- A read of an aligned tray address: its value. -/
def trayReg (s : State) (a : Nat) : Word :=
  if a < 0x80 then lockValue s (a / 4)
  else if a < 0xC0 then regMbxStat (mbxCh s ((a - 0x80) / 4))
  else if a < 0x100 then regHealth s (a - 0xC0)
  else if 0x1000 ≤ a ∧ a < 0x2000 then regMap s .tray (a - 0x1000)
  else if 0x2000 ≤ a ∧ a < 0x2400 then regWindow s .tray (a - 0x2000)
  else if 0x3000 ≤ a ∧ a < 0x4000 then regMbx s .tray (a - 0x3000)
  else if 0x4000 ≤ a ∧ a < 0x5000 then regLock s (a - 0x4000)
  else 0

/-- What a read of it changes. -/
def trayTouch (a : Nat) (s : State) : State :=
  if a < 0x80 then lockAcquire .tray (a / 4) s
  else if 0x2000 ≤ a ∧ a < 0x2400 then windowRead s .tray (a - 0x2000)
  else if 0x4000 ≤ a ∧ a < 0x5000 then lockBlockRead .tray (a - 0x4000) s
  else s

/-- A committed write to an aligned tray address. -/
def trayPut (a : Nat) (be : BitVec 4) (w : Word) (s : State) : State :=
  if a < 0x80 then lockBlockWrite .tray a be w s
  else if a < 0xC0 then mbxStatWrite .tray ((a - 0x80) / 4) (w &&& beMask be) s
  else if a < 0x2000 then s
  else if a < 0x2400 then windowWrite .tray (a - 0x2000) be w s
  else if a < 0x3000 then s
  else if a < 0x4000 then mbxWrite .tray (a - 0x3000) be w s
  else if a < 0x5000 then lockBlockWrite .tray (a - 0x4000) be w s
  else s

/-- The register that holds a half-word. -/
def regAddr (a : Nat) : Nat := a / 4 * 4

/-- A read cycle is answered: a low half captures the register, the next read of its high half returns what
was captured, once (R20). DEDUCED: with nothing captured a high half reads the live one, without the effect of
a read (notes/assumptions/103). -/
def readHalf (a : Nat) (s : State) : State :=
  let r := regAddr a
  if a % 4 = 0 then
    let v := trayReg s r
    answered [v &&& 0xFFFF#32] .ok (onBus (fun b => { b with low := sput b.low r v }) (trayTouch r s))
  else
    match sget s.port.bus.low r with
    | some v => answered [if r < 0x80 then 0 else v >>> 16] .ok (onBus (fun b => { b with low := sdel b.low r }) s)
    | none => answered [if r < 0x80 then 0 else trayReg s r >>> 16] .ok s

/-- TRAY_LOW_HALF_READ: a read cycle. The fast block answers in the cycle; elsewhere the cycle waits for the
island (R191); an odd address ends in error (R192). -/
def execTrayLowHalfRead (addr : BitVec 16) (s : State) : Out :=
  let a := addr.toNat
  live s
    (if busWaits s || s.port.tbRst then s
     else if a % 2 = 1 then answered [] .err s
     else if a < 0x100 then readHalf a s
     else onBus (fun b => { b with readWait := some a }) s)

/-- TRAY_SLOW_READ_COMPLETE: once the write buffer is empty (R191, R257). -/
def execTraySlowReadComplete (s : State) : Out :=
  live s
    (match s.port.bus.readWait with
     | none => s
     | some a => if s.port.bus.wbuf then s else readHalf a (onBus (fun b => { b with readWait := none }) s))

/-- The word and byte enables that a write of a high half commits: with the held low half, or alone with the
upper two bytes. DEDUCED (notes/assumptions/103). -/
def committed (s : State) (a : Nat) (d : BitVec 16) : Word × BitVec 4 :=
  let hi : Word := d.setWidth 32 <<< 16
  match s.port.bus.held with
  | some (x, l) => if x = regAddr a then (hi ||| l.setWidth 32, 0xF#4) else (hi, 0xC#4)
  | none => (hi, 0xC#4)

/-- A write cycle is accepted: a low half is held, a high half commits both (R20). -/
def writeHalf (a : Nat) (d : BitVec 16) (s : State) : State :=
  let t := answered [] .ok s
  if a % 4 = 0 then onBus (fun b => { b with held := some (a, d) }) t
  else
    let c := committed s a d
    let u := onBus (fun b =>
      { b with held := if (b.held.map fun h => h.1) = some (regAddr a) then none else b.held }) t
    trayPut (regAddr a) c.2 c.1 u

/-- The write commits a DOORBELL, in the MBX block or through an alias (R192, R249). -/
def commitsDoorbell (s : State) (a : Nat) (d : BitVec 16) : Bool :=
  let r := regAddr a
  a % 4 == 2 && bitOf (committed s a d).1 0 &&
    ((decide (0x80 ≤ r) && decide (r < 0xC0)) || (decide (0x3000 ≤ r) && decide (r < 0x3800) && r % 0x80 == 0x40))

/-- A tray address is CMD_DATA_IN or its alias. -/
def isDataIn (a : Nat) : Bool := regAddr a == 0x2004 || (decide (0x2200 ≤ a) && decide (a < 0x2400))

/-- A write cycle brings an open inbound transfer its next word. -/
def bringsData (s : State) (a : Nat) : Bool :=
  isDataIn a && a % 4 == 2 && (s.win .tray).active && !(s.win .tray).outbound

/-- A write cycle at the inbound buffer: a data word that finds it full waits for room (R192). FREE VALUE: whether it
is full, which depends on timing (notes/assumptions/140). -/
def roomCycle (a : Nat) (d : BitVec 16) (s : State) : State :=
  if bringsData s a then
    let t : State := { s with free := s.free + 1 }
    if Config.inboundFull s.free then onBus (fun b => { b with roomWait := some (a, d) }) t
    else writeHalf a d (onBus (fun b => { b with wbuf := true }) t)
  else writeHalf a d (onBus (fun b => { b with wbuf := true }) s)

/-- A write cycle at the write buffer: the fast block does not use it, a DOORBELL waits until it is empty
without entering it, and a write that finds it full waits (R192, R249). -/
def writeCycle (a : Nat) (d : BitVec 16) (s : State) : State :=
  let fast := decide (a < 0x100)
  let bell := commitsDoorbell s a d
  if s.port.bus.wbuf && (!fast || bell) then onBus (fun b => { b with waiting := some (a, d) }) s
  else if fast || bell then writeHalf a d s
  else roomCycle a d s

/-- TRAY_LOW_HALF_WRITE: a write cycle. -/
def execTrayLowHalfWrite (addr data : BitVec 16) (s : State) : Out :=
  live s
    (if busWaits s || s.port.tbRst then s
     else if addr.toNat % 2 = 1 then answered [] .err s
     else writeCycle addr.toNat data s)

/-- TRAY_WRITE_BUFFER_DRAIN: the buffer empties, and a write that waits for it, or for room, goes on (R192). -/
def execTrayWriteBufferDrain (s : State) : Out :=
  live s
    (let t := onBus (fun b => { b with wbuf := false, waiting := none, roomWait := none }) s
     match s.port.bus.waiting.or s.port.bus.roomWait with
     | none => t
     | some (a, d) => writeCycle a d t)

/-- TRAY_DATA_WAIT_TIMEOUT: the waiting data write ends in error and is not accepted (R192). -/
def execTrayDataWaitTimeout (s : State) : Out :=
  live s
    (if s.port.bus.roomWait.isSome then answered [] .err (onBus (fun b => { b with roomWait := none }) s)
     else match s.port.bus.waiting with
     | some (a, _) => if isDataIn a then answered [] .err (onBus (fun b => { b with waiting := none }) s) else s
     | none => s)

/-! ## REGISTER_WRITE -/

/-- REGISTER_WRITE: a write at an offset of the map of R15, for the tray at an address of its window.
Internal masters and the tray write whole words (R255). -/
def execRegisterWrite (m : Master) (off : Nat) (be : BitVec 4) (w : Word) (s : State) : Out :=
  live s
    (if !masterReach s m then s
     else if m = .tray then (if busWaits s then s else trayPut (regAddr off) 0xF#4 w s)
     else busWrite m (regAddr off) (enablesOf m be) w s)

/-! ## The HBM aperture (R188) -/

/-- The stack and byte address of an aperture offset. -/
def apStack (off : Nat) : Nat := off / 0x1000000000
def apAddr (off : Nat) : Nat := off % 0x1000000000

/-- An access reaches only bytes that the aperture serves: a stack neither retired nor failed, below the end
of its memory and outside the system region. DEDUCED: an access that reaches any other byte reads 0 or is
ignored as a whole (notes/assumptions/102). -/
def apServed (s : State) (off n : Nat) : Bool :=
  let h := apStack off
  decide (h < 6) && stackUsable (stackOf s h) && decide (apAddr off + n ≤ stackBytes) &&
    !touchesSystem s h (apAddr off) n

/-- A poisoned unit lies in n bytes of a stack. -/
def apPoison (s : State) (off n : Nat) : Bool :=
  let lo := hbmBase (apStack off) + apAddr off
  s.mem.hbmPoison.any fun u => decide (32 * u < lo + n ∧ lo < 32 * u + 32)

/-- APERTURE_ACCESS. -/
def execApertureAccess (write : Bool) (off len : Nat) (data : List Byte) (s : State) : Out :=
  live s
    (if !inS0S1 s then answered [] .completerAbort s
     else if !masterReach s .hostData then s
     else if write then
       (if apServed s off data.length then answered [] .ok (stackWrite (apStack off) (apAddr off) data []
          (countRequests false (apStack off) (apAddr off) data.length s))
        else answered [] .ok s)
     else if apServed s off len then
       answered (bytesWords (stackRead s (apStack off) (apAddr off) len))
         (if apPoison s off len then .poisoned else .ok) (countRequests true (apStack off) (apAddr off) len s)
     else answered (List.replicate ((len + 3) / 4) 0) .ok s)

end Sys2Proof.Machine
end

