-- ==== Sys2Proof/Machine/Dispatch.lean ====
section
/-! DEFINITION. The dispatch: one arm per command, each a direct call of its meaning. -/

namespace Sys2Proof.Machine

def exec (i : Instr) (s : State) : Host.Outcome State Fault Refusal :=
  match i with
  | .getIdentity r => Sys2Proof.Machine.execGetIdentity r s
  | .getVersions r => Sys2Proof.Machine.execGetVersions r s
  | .cmdAbort r => Sys2Proof.Machine.execCmdAbort r s
  | .cmdNop r => Sys2Proof.Machine.execCmdNop r s
  | .pwrStatus r => Sys2Proof.Machine.execPwrStatus r s
  | .pwrStateSet r => Sys2Proof.Machine.execPwrStateSet r s
  | .pwrCapSet r => Sys2Proof.Machine.execPwrCapSet r s
  | .pwrRailStatus r => Sys2Proof.Machine.execPwrRailStatus r s
  | .resetDomain r => Sys2Proof.Machine.execResetDomain r s
  | .coolStatus r => Sys2Proof.Machine.execCoolStatus r s
  | .coolForecastGet r => Sys2Proof.Machine.execCoolForecastGet r s
  | .toecapSet r => Sys2Proof.Machine.execToecapSet r s
  | .loopConfig r => Sys2Proof.Machine.execLoopConfig r s
  | .loopMode r => Sys2Proof.Machine.execLoopMode r s
  | .loopCoeffSet r => Sys2Proof.Machine.execLoopCoeffSet r s
  | .loopStatus r => Sys2Proof.Machine.execLoopStatus r s
  | .valveCmd r => Sys2Proof.Machine.execValveCmd r s
  | .pwmSet r => Sys2Proof.Machine.execPwmSet r s
  | .pinFuncSet r => Sys2Proof.Machine.execPinFuncSet r s
  | .weltStatus r => Sys2Proof.Machine.execWeltStatus r s
  | .weltArm r => Sys2Proof.Machine.execWeltArm r s
  | .rowConfig r => Sys2Proof.Machine.execRowConfig r s
  | .rowStatus r => Sys2Proof.Machine.execRowStatus r s
  | .stewardStatus r => Sys2Proof.Machine.execStewardStatus r s
  | .stewardConfig r => Sys2Proof.Machine.execStewardConfig r s
  | .lastLoad r => Sys2Proof.Machine.execLastLoad r s
  | .lastCommit r => Sys2Proof.Machine.execLastCommit r s
  | .lastJobSet r => Sys2Proof.Machine.execLastJobSet r s
  | .lastStart r => Sys2Proof.Machine.execLastStart r s
  | .lastSwitch r => Sys2Proof.Machine.execLastSwitch r s
  | .lastPause r => Sys2Proof.Machine.execLastPause r s
  | .lastResume r => Sys2Proof.Machine.execLastResume r s
  | .lastUnload r => Sys2Proof.Machine.execLastUnload r s
  | .lastStatus r => Sys2Proof.Machine.execLastStatus r s
  | .memStatus r => Sys2Proof.Machine.execMemStatus r s
  | .memScrubSet r => Sys2Proof.Machine.execMemScrubSet r s
  | .memPoolExport r => Sys2Proof.Machine.execMemPoolExport r s
  | .coreSwap r => Sys2Proof.Machine.execCoreSwap r s
  | .hbmRetire r => Sys2Proof.Machine.execHbmRetire r s
  | .repairStatus r => Sys2Proof.Machine.execRepairStatus r s
  | .laceStatus r => Sys2Proof.Machine.execLaceStatus r s
  | .laceIdSet r => Sys2Proof.Machine.execLaceIdSet r s
  | .laceTrain r => Sys2Proof.Machine.execLaceTrain r s
  | .laceConfig r => Sys2Proof.Machine.execLaceConfig r s
  | .laceRetire r => Sys2Proof.Machine.execLaceRetire r s
  | .logStatus r => Sys2Proof.Machine.execLogStatus r s
  | .logRead r => Sys2Proof.Machine.execLogRead r s
  | .timeGet r => Sys2Proof.Machine.execTimeGet r s
  | .timeSet r => Sys2Proof.Machine.execTimeSet r s
  | .fwLoad r => Sys2Proof.Machine.execFwLoad r s
  | .fwCommit r => Sys2Proof.Machine.execFwCommit r s
  | .fwActivate r => Sys2Proof.Machine.execFwActivate r s
  | .fwStatus r => Sys2Proof.Machine.execFwStatus r s
  | .secAttest r => Sys2Proof.Machine.execSecAttest r s
  | .secLifecycleSet r => Sys2Proof.Machine.execSecLifecycleSet r s
  | .secDebugUnlock r => Sys2Proof.Machine.execSecDebugUnlock r s
  | .secKeyStatus r => Sys2Proof.Machine.execSecKeyStatus r s
  | .coreSelftest r => Sys2Proof.Machine.execCoreSelftest r s
  | .sensorCal r => Sys2Proof.Machine.execSensorCal r s
  | .calTableLoad r => Sys2Proof.Machine.execCalTableLoad r s
  | .loopTest r => Sys2Proof.Machine.execLoopTest r s
  | .captureRead r => Sys2Proof.Machine.execCaptureRead r s
  | .valveTest r => Sys2Proof.Machine.execValveTest r s
  | .cmdReqWrite p w => Sys2Proof.Machine.execCmdReqWrite p w s
  | .cmdDataInWrite p w => Sys2Proof.Machine.execCmdDataInWrite p w s
  | .cmdDataOutRead p => Sys2Proof.Machine.execCmdDataOutRead p s
  | .cmdDoneRelease p hi mask => Sys2Proof.Machine.execCmdDoneRelease p hi mask s
  | .cmdPeerTimeout p tag => Sys2Proof.Machine.execCmdPeerTimeout p tag s
  | .trayDataWaitTimeout => Sys2Proof.Machine.execTrayDataWaitTimeout s
  | .trayWriteBufferDrain => Sys2Proof.Machine.execTrayWriteBufferDrain s
  | .traySlowReadComplete => Sys2Proof.Machine.execTraySlowReadComplete s
  | .trayLowHalfRead addr => Sys2Proof.Machine.execTrayLowHalfRead addr s
  | .trayLowHalfWrite addr data => Sys2Proof.Machine.execTrayLowHalfWrite addr data s
  | .trayPortReset low => Sys2Proof.Machine.execTrayPortReset low s
  | .perstAssert => Sys2Proof.Machine.execPerstAssert s
  | .perstDeassert => Sys2Proof.Machine.execPerstDeassert s
  | .controlFlr => Sys2Proof.Machine.execControlFlr s
  | .dataFlr => Sys2Proof.Machine.execDataFlr s
  | .apertureAccess write off len data => Sys2Proof.Machine.execApertureAccess write off len data s
  | .registerWrite m off be w => Sys2Proof.Machine.execRegisterWrite m off be w s
  | .mbxDataWrite m ch k be w => Sys2Proof.Machine.execMbxDataWrite m ch k be w s
  | .mbxDoorbell m ch => Sys2Proof.Machine.execMbxDoorbell m ch s
  | .mbxAck m ch code => Sys2Proof.Machine.execMbxAck m ch code s
  | .trayDoorbellAnswer => Sys2Proof.Machine.execTrayDoorbellAnswer s
  | .lockRead m n => Sys2Proof.Machine.execLockRead m n s
  | .lockRelease m n w => Sys2Proof.Machine.execLockRelease m n w s
  | .lockStatRead m n => Sys2Proof.Machine.execLockStatRead m n s
  | .mpReset => Sys2Proof.Machine.execMpReset s
  | .securityProcessorReset => Sys2Proof.Machine.execSecurityProcessorReset s
  | .islandProcessorReset => Sys2Proof.Machine.execIslandProcessorReset s
  | .islandProcessorRelease => Sys2Proof.Machine.execIslandProcessorRelease s
  | .debugTapReset => Sys2Proof.Machine.execDebugTapReset s
  | .bridgeRetryReissue => Sys2Proof.Machine.execBridgeRetryReissue s
  | .islandPowerUp => Sys2Proof.Machine.execIslandPowerUp s
  | .vIslLoss => Sys2Proof.Machine.execVIslLoss s
  | .securityBoot => Sys2Proof.Machine.execSecurityBoot s
  | .pwrBrakeAssert => Sys2Proof.Machine.execPwrBrakeAssert s
  | .pwrBrakeDeassert => Sys2Proof.Machine.execPwrBrakeDeassert s
  | .pgRise rail => Sys2Proof.Machine.execPgRise rail s
  | .pgTimeout rail => Sys2Proof.Machine.execPgTimeout rail s
  | .railDown rail => Sys2Proof.Machine.execRailDown rail s
  | .pgStuck rail => Sys2Proof.Machine.execPgStuck rail s
  | .railFailure rail => Sys2Proof.Machine.execRailFailure rail s
  | .powerUpComplete => Sys2Proof.Machine.execPowerUpComplete s
  | .hbmTrainDone stack ok temp => Sys2Proof.Machine.execHbmTrainDone stack ok temp s
  | .smbalert rails => Sys2Proof.Machine.execSmbalert rails s
  | .smbalertAraTimeout rails => Sys2Proof.Machine.execSmbalertAraTimeout rails s
  | .pmbusPoll readings => Sys2Proof.Machine.execPmbusPoll readings s
  | .clockChangeApply => Sys2Proof.Machine.execClockChangeApply s
  | .trayPowerUp => Sys2Proof.Machine.execTrayPowerUp s
  | .trayClearLockout => Sys2Proof.Machine.execTrayClearLockout s
  | .trayIslandOff => Sys2Proof.Machine.execTrayIslandOff s
  | .startupCapLift => Sys2Proof.Machine.execStartupCapLift s
  | .throttleRise => Sys2Proof.Machine.execThrottleRise s
  | .throttleFall => Sys2Proof.Machine.execThrottleFall s
  | .pwrThrottleEscalate => Sys2Proof.Machine.execPwrThrottleEscalate s
  | .thermalLimitRelease => Sys2Proof.Machine.execThermalLimitRelease s
  | .shedLimitRise => Sys2Proof.Machine.execShedLimitRise s
  | .warmReached => Sys2Proof.Machine.execWarmReached s
  | .frameBoundary stretch pkgW => Sys2Proof.Machine.execFrameBoundary stretch pkgW s
  | .lastSwitchFrame => Sys2Proof.Machine.execLastSwitchFrame s
  | .frameStrobe cycles => Sys2Proof.Machine.execFrameStrobe cycles s
  | .packageReady below => Sys2Proof.Machine.execPackageReady below s
  | .markerEmit waited => Sys2Proof.Machine.execMarkerEmit waited s
  | .frameMarkerReceive k lane residence => Sys2Proof.Machine.execFrameMarkerReceive k lane residence s
  | .shedNotice => Sys2Proof.Machine.execShedNotice s
  | .shedNoticeReceive k lane residence => Sys2Proof.Machine.execShedNoticeReceive k lane residence s
  | .frameFaultTimeout => Sys2Proof.Machine.execFrameFaultTimeout s
  | .memberMarkerTimeout => Sys2Proof.Machine.execMemberMarkerTimeout s
  | .join job leader member lane => Sys2Proof.Machine.execJoin job leader member lane s
  | .matrixDescriptor cl core d start => Sys2Proof.Machine.execMatrixDescriptor cl core d start s
  | .add cl core d => Sys2Proof.Machine.execAdd cl core d s
  | .mul cl core d => Sys2Proof.Machine.execMul cl core d s
  | .fma cl core d => Sys2Proof.Machine.execFma cl core d s
  | .min cl core d => Sys2Proof.Machine.execMin cl core d s
  | .max cl core d => Sys2Proof.Machine.execMax cl core d s
  | .cvt cl core d => Sys2Proof.Machine.execCvt cl core d s
  | .encode cl core d => Sys2Proof.Machine.execEncode cl core d s
  | .rcp cl core d => Sys2Proof.Machine.execRcp cl core d s
  | .rsqrt cl core d => Sys2Proof.Machine.execRsqrt cl core d s
  | .exp2 cl core d => Sys2Proof.Machine.execExp2 cl core d s
  | .log2 cl core d => Sys2Proof.Machine.execLog2 cl core d s
  | .reduceAdd cl core d => Sys2Proof.Machine.execReduceAdd cl core d s
  | .hbmDescriptor d => Sys2Proof.Machine.execHbmDescriptor d s
  | .laceDescriptor d => Sys2Proof.Machine.execLaceDescriptor d s
  | .spillDescriptor d => Sys2Proof.Machine.execSpillDescriptor d s
  | .allReduce d => Sys2Proof.Machine.execAllReduce d s
  | .reduceScatter d => Sys2Proof.Machine.execReduceScatter d s
  | .allGather d => Sys2Proof.Machine.execAllGather d s
  | .allToAll d => Sys2Proof.Machine.execAllToAll d s
  | .collectiveContributionReceive c => Sys2Proof.Machine.execCollectiveContributionReceive c s
  | .hbmRereadComplete stack unit second ok => Sys2Proof.Machine.execHbmRereadComplete stack unit second ok s
  | .patrolScrub stack unit out => Sys2Proof.Machine.execPatrolScrub stack unit out s
  | .sramScrub cl core addr out => Sys2Proof.Machine.execSramScrub cl core addr out s
  | .coreParity cl core acc => Sys2Proof.Machine.execCoreParity cl core acc s
  | .lightLoss input => Sys2Proof.Machine.execLightLoss input s
  | .lightRestored input => Sys2Proof.Machine.execLightRestored input s
  | .laneTrainingDone lane res => Sys2Proof.Machine.execLaneTrainingDone lane res s
  | .flitReplay lane seq age => Sys2Proof.Machine.execFlitReplay lane seq age s
  | .replayExhaust lane => Sys2Proof.Machine.execReplayExhaust lane s
  | .lossOfSignal lane => Sys2Proof.Machine.execLossOfSignal lane s
  | .laceTimeout w => Sys2Proof.Machine.execLaceTimeout w s
  | .laceReply tag gen body => Sys2Proof.Machine.execLaceReply tag gen body s
  | .laceRequestReceive q => Sys2Proof.Machine.execLaceRequestReceive q s
  | .relayForward target sled lane => Sys2Proof.Machine.execRelayForward target sled lane s
  | .peerResetReceive peer => Sys2Proof.Machine.execPeerResetReceive peer s
  | .retireSymbolReceive lane => Sys2Proof.Machine.execRetireSymbolReceive lane s
  | .controlTick x => Sys2Proof.Machine.execControlTick x s
  | .loopOutputApply => Sys2Proof.Machine.execLoopOutputApply s
  | .testDone => Sys2Proof.Machine.execTestDone s
  | .loopImplausible slot => Sys2Proof.Machine.execLoopImplausible slot s
  | .loopSaturated slot => Sys2Proof.Machine.execLoopSaturated slot s
  | .plausWindowEnd slot => Sys2Proof.Machine.execPlausWindowEnd slot s
  | .sensorFault ch => Sys2Proof.Machine.execSensorFault ch s
  | .sensorRecovered ch => Sys2Proof.Machine.execSensorRecovered ch s
  | .sensorDisagree ch => Sys2Proof.Machine.execSensorDisagree ch s
  | .flowPulse ch cycles => Sys2Proof.Machine.execFlowPulse ch cycles s
  | .flowPulseTimeout ch => Sys2Proof.Machine.execFlowPulseTimeout ch s
  | .calibrationComplete ch result offset gain => Sys2Proof.Machine.execCalibrationComplete ch result offset gain s
  | .zoneEnergyPush frames collides => Sys2Proof.Machine.execZoneEnergyPush frames collides s
  | .forecastSend b => Sys2Proof.Machine.execForecastSend b s
  | .forecastStale => Sys2Proof.Machine.execForecastStale s
  | .toecapService m w => Sys2Proof.Machine.execToecapService m w s
  | .toecapExpiry => Sys2Proof.Machine.execToecapExpiry s
  | .toecapRelease m => Sys2Proof.Machine.execToecapRelease m s
  | .valvePeriodBoundary ch => Sys2Proof.Machine.execValvePeriodBoundary ch s
  | .valveCommandEnd ch => Sys2Proof.Machine.execValveCommandEnd ch s
  | .boostEnd ch peakReached dipUs => Sys2Proof.Machine.execBoostEnd ch peakReached dipUs s
  | .peakEnd ch dipUs => Sys2Proof.Machine.execPeakEnd ch dipUs s
  | .coilOvercurrent ch => Sys2Proof.Machine.execCoilOvercurrent ch s
  | .coilOpenLoad ch => Sys2Proof.Machine.execCoilOpenLoad ch s
  | .valveSupplyLow => Sys2Proof.Machine.execValveSupplyLow s
  | .valveSupplyRestored => Sys2Proof.Machine.execValveSupplyRestored s
  | .pwmReload n => Sys2Proof.Machine.execPwmReload n s
  | .pwmDutyWrite m n duty => Sys2Proof.Machine.execPwmDutyWrite m n duty s
  | .tachEdge n cycles => Sys2Proof.Machine.execTachEdge n cycles s
  | .tachTimeout n => Sys2Proof.Machine.execTachTimeout n s
  | .pumpStall n => Sys2Proof.Machine.execPumpStall n s
  | .leakTrip input levels => Sys2Proof.Machine.execLeakTrip input levels s
  | .weltSenseFault input => Sys2Proof.Machine.execWeltSenseFault input s
  | .weltSenseRecovered input => Sys2Proof.Machine.execWeltSenseRecovered input s
  | .clearLeak dryLongEnough => Sys2Proof.Machine.execClearLeak dryLongEnough s
  | .clearTherm => Sys2Proof.Machine.execClearTherm s
  | .flowBalanceEvaluation supplyMl returnMl => Sys2Proof.Machine.execFlowBalanceEvaluation supplyMl returnMl s
  | .valveTestStartSample p => Sys2Proof.Machine.execValveTestStartSample p s
  | .valveTestResult p => Sys2Proof.Machine.execValveTestResult p s
  | .rowFrameReceive b f => Sys2Proof.Machine.execRowFrameReceive b f s
  | .rowFrameSent b loopDelay => Sys2Proof.Machine.execRowFrameSent b loopDelay s
  | .txAttemptFail b exempt => Sys2Proof.Machine.execTxAttemptFail b exempt s
  | .busOffRecovery b => Sys2Proof.Machine.execBusOffRecovery b s
  | .objectExpired b m => Sys2Proof.Machine.execObjectExpired b m s
  | .objectStale b m => Sys2Proof.Machine.execObjectStale b m s
  | .objectPeriodicQueue b m => Sys2Proof.Machine.execObjectPeriodicQueue b m s
  | .objReq ms b m => Sys2Proof.Machine.execObjReq ms b m s
  | .objCancel ms b m => Sys2Proof.Machine.execObjCancel ms b m s
  | .objLock ms b m => Sys2Proof.Machine.execObjLock ms b m s
  | .objAck ms b m => Sys2Proof.Machine.execObjAck ms b m s
  | .leakRepeat => Sys2Proof.Machine.execLeakRepeat s
  | .failsafeRepeat => Sys2Proof.Machine.execFailsafeRepeat s
  | .refQueue b => Sys2Proof.Machine.execRefQueue b s
  | .ref b f => Sys2Proof.Machine.execRef b f s
  | .rowTimeHoldover => Sys2Proof.Machine.execRowTimeHoldover s
  | .grant b g => Sys2Proof.Machine.execGrant b g s
  | .request b g => Sys2Proof.Machine.execRequest b g s
  | .release b g => Sys2Proof.Machine.execRelease b g s
  | .taken b g => Sys2Proof.Machine.execTaken b g s
  | .failsafe b source forced => Sys2Proof.Machine.execFailsafe b source forced s
  | .heartbeatLost b => Sys2Proof.Machine.execHeartbeatLost b s
  | .refereeStart b => Sys2Proof.Machine.execRefereeStart b s
  | .initialGrant b => Sys2Proof.Machine.execInitialGrant b s
  | .latentFaultCheck b => Sys2Proof.Machine.execLatentFaultCheck b s
  | .takebackRequest b => Sys2Proof.Machine.execTakebackRequest b s
  | .takebackReleaseTimeout b => Sys2Proof.Machine.execTakebackReleaseTimeout b s
  | .statePush => Sys2Proof.Machine.execStatePush s
  | .state b segment data => Sys2Proof.Machine.execState b segment data s
  | .stewardStep => Sys2Proof.Machine.execStewardStep s
  | .limit b group entries => Sys2Proof.Machine.execLimit b group entries s
  | .stewardCapLost => Sys2Proof.Machine.execStewardCapLost s
  | .islandRecordProgrammed => Sys2Proof.Machine.execIslandRecordProgrammed s
  | .openRecordClose => Sys2Proof.Machine.execOpenRecordClose s
  | .islandPageEraseDone => Sys2Proof.Machine.execIslandPageEraseDone s
  | .mainSectorEraseDone => Sys2Proof.Machine.execMainSectorEraseDone s
  | .islandRecordCopy => Sys2Proof.Machine.execIslandRecordCopy s
  | .tokenAdd code => Sys2Proof.Machine.execTokenAdd code s
  | .timeLoRead m row => Sys2Proof.Machine.execTimeLoRead m row s
  | .fwActivationStart target => Sys2Proof.Machine.execFwActivationStart target s
  | .trialRunTimeout target => Sys2Proof.Machine.execTrialRunTimeout target s
  | .trialEnd target => Sys2Proof.Machine.execTrialEnd target s
  | .nonceExpiry => Sys2Proof.Machine.execNonceExpiry s
  | .mpStart => Sys2Proof.Machine.execMpStart s
  | .selftestComplete cl core code => Sys2Proof.Machine.execSelftestComplete cl core code s
  | .mainRecordProgrammed => Sys2Proof.Machine.execMainRecordProgrammed s
  | .receiveError b dominantAfterFlag => Sys2Proof.Machine.execReceiveError b dominantAfterFlag s
  | .transmissionStart b sof won => Sys2Proof.Machine.execTransmissionStart b sof won s
  | .busIntegrationComplete b => Sys2Proof.Machine.execBusIntegrationComplete b s
  | .rowTimeSlewEnd => Sys2Proof.Machine.execRowTimeSlewEnd s
  | .candidateEligible b cand => Sys2Proof.Machine.execCandidateEligible b cand s
  | .doubledRefresh stack temp => Sys2Proof.Machine.execDoubledRefresh stack temp s

end Sys2Proof.Machine
end

