-- ==== Sys2Proof/Machine/Step.lean ====
section
/-! DEFINITION. One step: the command at the front of the queue, or a microsecond of idling. -/

namespace Sys2Proof.Machine

/-- A step with nothing to do: ELAPSED_US counts one microsecond while V_ISL is good (R453), and the enables of the
core rails that a power-up spaces by 100 µs follow (R262). DESIGN CHOICE: the table has no row for the passing of
time (notes/assumptions/2). -/
def idle (s : State) : State :=
  if s.isl.on then coreStagger { s with log := { s.log with elapsed := s.log.elapsed + 1 } } else s

/-- Takes the command at the front of the queue and runs it on the state with the queue's rest. -/
def step (s : State) : Host.Outcome State Fault Refusal :=
  match s.pending with
  | [] => .next (idle s)
  | c :: rest => exec c { s with pending := rest }

/-- The state with the command that a table word spells put at the front of the queue. -/
def State.withFetchWord (s : State) (nbits w : Nat) : State :=
  match decodeTableWord nbits w with
  | none => s
  | some c => { s with pending := c :: s.pending }

end Sys2Proof.Machine
end

