-- ==== Sys2Proof/Safety.lean ====
section
/-! DEFINITION. What the statements speak of: runs that stay in the model, commands that are ready to run, and
replies as a requester sees them. -/

namespace Sys2Proof.Machine

/-- A step that stays in the model. -/
def Safe (s : State) : Prop := ∃ t, step s = .next t

/-- A packet of an opcode can run at once: V_ISL is good, the requester reaches its window, nothing else is
posted, the tag is free, checks 1 to 6 of R207 pass, and the processors that serve the opcode run. -/
structure Ready (op : Nat) (r : Req) (s : State) : Prop where
  on : s.isl.on = true
  reach : portReach s r.port = true
  idle : s.port.ctx = []
  free : sget (s.win r.port).replies r.tag.toNat = none
  checks : postChecks s r.port r.ver op r.words.length r.words = none
  served : serverOf s r.port op (keptWords op r.words) ≠ .off
  peer : peerUp s op (keptWords op r.words) = true

/-- The context entry that a packet's command runs with. -/
def ctxOf (op : Nat) (r : Req) (s : State) : Ctx :=
  { port := r.port, tag := r.tag, ver := replyVer r.ver, op := op, words := keptWords op r.words, started := true
    inRam := serverOf s r.port op r.words != .cobbler }

/-- The slot of the packet's tag holds a reply with a status and payload words (R205). -/
def Replied (op : Nat) (r : Req) (status : Nat) (ws : List Word) (t : State) : Prop :=
  sget (t.win r.port).replies r.tag.toNat =
    some { ver := replyVer r.ver, opcode := op, status := status, words := ws }

/-- Nothing but the ports changed. -/
def OnlyPorts (s t : State) : Prop := t = { s with port := t.port }

/-- The command has run and its entry is gone. -/
def Served (t : State) : Prop := t.port.ctx = []

/-- A ready command completes: its reply lies in its slot, its entry is gone, the other ports' windows are as
they were, and nothing but the ports changed. -/
def Answered (op : Nat) (c : Instr) (r : Req) (status : Nat) (ws : List Word) (s : State) : Prop :=
  ∃ t, exec c s = .next t ∧ OnlyPorts s t ∧ Served t ∧ Replied op r status ws t ∧
    ∀ q, q ≠ r.port → t.win q = s.win q

/-- A command completes, and the next state meets a property. -/
def Does (c : Instr) (s : State) (P : State → Prop) : Prop := ∃ t, exec c s = .next t ∧ P t

/-- A ready command completes with its reply in its slot, its entry gone and the other ports' windows as they
were, in a state that meets a property. -/
def Ends (op : Nat) (c : Instr) (r : Req) (status : Nat) (ws : List Word) (s : State) (P : State → Prop) : Prop :=
  Does c s fun t => Served t ∧ Replied op r status ws t ∧ (∀ q, q ≠ r.port → t.win q = s.win q) ∧ P t

/-- The log block is that of a state with one record raised in it (R458 to R467). -/
def Logged (code : Nat) (args : List (Nat × Nat)) (s t : State) : Prop := t.log = (raise code args s).log

/-- What a reset of masters leaves of a channel, whose receiver's reset comes before its sender's, and of a lock
(R242, R243, R246). -/
def ResetOf (ms : List Nat) (s t : State) : Prop :=
  (∀ c, c < 16 →
    (¬ (mbxCh s c).receiver ∈ ms → ¬ (mbxCh s c).sender ∈ ms → mbxCh t c = mbxCh s c) ∧
    ((mbxCh s c).receiver ∈ ms → ¬ (mbxCh s c).sender ∈ ms → (mbxCh s c).doorbell = true →
      mbxCh t c = { mbxCh s c with data := Vector.replicate 16 0, doorbell := false, ackCode := 0xFE, ackValid := true }) ∧
    ((mbxCh s c).receiver ∈ ms → ¬ (mbxCh s c).sender ∈ ms → (mbxCh s c).doorbell = false → mbxCh t c = mbxCh s c) ∧
    (¬ (mbxCh s c).receiver ∈ ms → (mbxCh s c).sender ∈ ms →
      mbxCh t c = { mbxCh s c with senderEpoch := (mbxCh s c).senderEpoch + 1, ackValid := false, ackCode := 0 }) ∧
    ((mbxCh s c).receiver ∈ ms → (mbxCh s c).sender ∈ ms →
      mbxCh t c = { mbxCh s c with
        data := if (mbxCh s c).doorbell then Vector.replicate 16 0 else (mbxCh s c).data, doorbell := false
        senderEpoch := (mbxCh s c).senderEpoch + 1, ackValid := false, ackCode := 0 })) ∧
  (∀ n, n < 32 →
    ((lockOf s n).owner ∈ ms → lockOf t n = { owner := 0, broken := true, brokenOwner := (lockOf s n).owner }) ∧
    (¬ (lockOf s n).owner ∈ ms → lockOf t n = lockOf s n))

/-- Both memories stand in canonical form: rising addresses, no cell of 0. -/
def MemoriesCanonical (s : State) : Prop := Memory.wf s.core.sram = true ∧ Memory.wf s.mem.hbm = true

/-- Of the memory block two states differ in the bytes and poison of the stacks and in what a stack counts:
MEM_INFLIGHT.PEAK, which stays within 512, MEM_BP_CNT and MEM_ECC.CE. -/
def StackCounts (s t : State) : Prop :=
  t.mem = { s.mem with stk := t.mem.stk, hbm := t.mem.hbm, hbmPoison := t.mem.hbmPoison } ∧
  ∀ h : Fin 6, t.mem.stk[h] = { s.mem.stk[h] with
      inflightPeak := t.mem.stk[h].inflightPeak, bpCnt := t.mem.stk[h].bpCnt, ce := t.mem.stk[h].ce } ∧
    s.mem.stk[h].inflightPeak ≤ t.mem.stk[h].inflightPeak ∧
    t.mem.stk[h].inflightPeak ≤ max s.mem.stk[h].inflightPeak 512

/-- A cluster's map lists each logical core once, and its free spare serves none of them (R33). -/
def RepairOk (s : State) : Prop :=
  ∀ n : Nat, sortedFrom none (clusterOf s n).map = true ∧
    ∀ p, (clusterOf s n).spare = some p → serves (clusterOf s n) p = none

end Sys2Proof.Machine
end

