-- ==== Sys2Proof/Certificates/Slice0/Obligations.lean ====
section
/-! DEFINITION. The statements about the model. -/

open Sys2Proof Sys2Proof.Machine

/-! ## Steps -/

/-- A step runs the command at the front of the queue on the state with the queue's rest. -/
def Obligations.StepRunsFront : Prop :=
  ∀ (c : Instr) (rest : List Instr) (s : State), s.pending = c :: rest → step s = exec c { s with pending := rest }

/-- What steps leave alone. Without V_ISL no command but the two that switch it changes anything (R515, R267), no
command touches the queue of waiting commands, and, the model's choice (notes/assumptions/2), a step on an empty
queue counts one microsecond of elapsed time while V_ISL is good and changes nothing else, but that `PWR_EN_CORE_B`,
C and D follow A by 100, 200 and 300 µs in a power-up (R262). -/
def Obligations.QuietSteps : Prop :=
  (∀ (c : Instr) (s : State), s.isl.on = false → c ≠ .islandPowerUp → c ≠ .vIslLoss → exec c s = .next s) ∧
  (∀ (c : Instr) (s t : State), exec c s = .next t → t.pending = s.pending) ∧
  (∀ s : State, s.pending = [] →
     (s.isl.on = false → step s = .next s) ∧
     (s.isl.on = true → s.pwr.coreEnAt = none →
       step s = .next { s with log := { s.log with elapsed := s.log.elapsed + 1 } }) ∧
     (∀ a, s.isl.on = true → s.pwr.coreEnAt = some a → ∃ t, step s = .next t ∧
       let n := (s.log.elapsed + 1 - a) / 100
       t.log = { s.log with elapsed := s.log.elapsed + 1 } ∧
       (∀ k, k < 9 → t.pwr.en.getLsbD k = (s.pwr.en.getLsbD k || decide (5 ≤ k ∧ k < 8 ∧ k - 5 < n))) ∧
       t.pwr = { s.pwr with en := t.pwr.en, coreEnAt := if 3 ≤ n then none else some a } ∧
       t = { s with log := t.log, pwr := t.pwr }))

/-- Every step keeps the canonical form of the two memories, from any state that has it: each core's SRAM (R111)
and the HBM stacks (R115) as lists of cells with rising addresses, none of them 0. -/
def Obligations.StepKeepsMemories : Prop :=
  ∀ s t : State, MemoriesCanonical s → step s = .next t → MemoriesCanonical t

/-- The state after reset keeps both invariants, its queue is empty, the package is in S3 with every enable low and
every lock free, and every register of the island, the control engine, the valves and pumps, Welt and the row bus
reads the value of its Reset column, as the power manager's limits, control, events, rails and throttle do
(R285 to R290, R314 to R318, R340 to R343, R366 to R373, R390 to R394, R423 to R427); of a sensor it reads the
faulted value, since nothing has primed its filter (R319). What the fuses, the flash and PWR_WAKE_CAUSE hold then is
the model's choice (notes/assumptions/3 and 5) and not stated here. -/
def Obligations.ResetState : Prop :=
  let s := State.reset
  let reads := fun (reg : State → Nat → Word) (l : List (Nat × Word)) => ∀ x ∈ l, reg s x.1 = x.2
  MemoriesCanonical s ∧ RepairOk s ∧ s.pending = [] ∧ s.pwr.pstate = .s3 ∧ s.pwr.en = 0 ∧
  (∀ n, n < 32 → lockOf s n = {}) ∧
  reads regPwr [(0x04, 0x0640FFFF#32), (0x08, 0x064003C0#32), (0x0C, 0x00640001#32), (0x10, 0),
    (0x18, 0xF0000000#32), (0x1C, 0), (0x20, 0)] ∧
  reads regIsl [(0x00, 0x00000502#32), (0x04, 0), (0x08, 0x000000C8#32), (0x0C, 0), (0x10, 0x00000014#32), (0x14, 0),
    (0x20, 0), (0x24, 0), (0x28, 0), (0x100, 0x2580#32), (0x200, 0x1F40#32)] ∧
  reads regCtl [(0x00, 0), (0x04, 0), (0x08, 0), (0x0C, 0), (0x104, 0x14000000#32), (0x108, 0x1400#32), (0x10C, 0x8000#32),
    (0x204, 0), (0x208, 0), (0x20C, 0x8000#32)] ∧
  (∀ n, n < 32 → (regLoopStat (slotOf s n)).extractLsb' 30 2 = 1#2 ∧ (regLoopStat (slotOf s n)).extractLsb' 11 2 = 0#2) ∧
  reads regVlv [(0x000, 0x00640500#32), (0x004, 0x781E0A14#32), (0x008, 0), (0x120, 0), (0x130, 0), (0x134, 0)] ∧
  (∀ k, k < 20 → regVlv s (0x010 + 4 * k) = 0x00FFFF00#32) ∧
  (∀ n, n < 4 → regVlv s (0x080 + 4 * n) = 0x781E1400#32 ∧ regVlv s (0x100 + 4 * n) = 0xFFCCDBFF#32 ∧
    regVlv s (0x110 + 4 * n) = 0) ∧
  reads regWelt [(0x00, 0), (0x04, 0x0000003F#32), (0x08, 0), (0x0C, 0x0A000032#32), (0x10, 0)] ∧
  (∀ i, i < 6 → regWelt s (0x20 + 4 * i) = 0x01000000#32) ∧
  regRowNbt s.row.a = 0x03270A0A#32 ∧ regRowNbt s.row.b = 0x07270A0A#32 ∧
  (∀ b, regRowDbt (rowCh s b) = 0x001E1D99#32 ∧ regRowStat s b = 0 ∧ (rowCh s b).event = 0 ∧ (rowCh s b).lateDrop = 0 ∧
    (rowCh s b).unmatched = 0) ∧
  regRowTsync s.row = 0 ∧ regLog s 0x14 = 0

/-! ## Opcodes that only report -/

/-- The opcodes that only report: each is answered DONE with its words, and only the ports change (R141,
R228, R291, R320, R395, R452, R472, R488, R507). -/
def Obligations.ReportingOpcodes : Prop :=
  ∀ (r : Req) (s : State),
    (Ready 0x000 r s → Answered 0x000 (.getIdentity r) r 0
      [0x4096B000#32, 0x32312143#32, regGenFw s, regGenCap s, regSerialLo s, regSerialHi s] s) ∧
    (Ready 0x001 r s → Answered 0x001 (.getVersions r) r 0 [0x32312143#32, regGenFw s, w32 (replyVer r.ver)] s) ∧
    (Ready 0x003 r s → Answered 0x003 (.cmdNop r) r 0 r.words s) ∧
    (Ready 0x100 r s → Answered 0x100 (.pwrStatus r) r 0
      [regPwr s 0x00, regPwr s 0x04, regPwr s 0x08, regPwr s 0x10, regPwr s 0x14, regPwr s 0x1C] s) ∧
    (Ready 0x103 r s → Answered 0x103 (.pwrRailStatus r) r 0
      (regPwr s 0x18 :: (List.range 9).map fun i =>
        mkW [(16, vget s.pwr.vout i 0 % 65536), (0, vget s.pwr.iout i 0 % 65536)]) s) ∧
    (Ready 0x200 r s → Answered 0x200 (.coolStatus r) r 0
      [regIsl s 0x00, regIsl s 0x04, regIsl s 0x14, regIsl s 0x20, regIsl s 0x24, regIsl s 0x28] s) ∧
    (Ready 0x201 r s → Answered 0x201 (.coolForecastGet r) r 0
      (bytesWords (padTo 16 s.isl.rackMsg) ++ (List.range 8).map fun j =>
        mkW [(16, nearTenth s (2 * j + 1)), (0, nearTenth s (2 * j))]) s) ∧
    (Ready 0x230 r s → Answered 0x230 (.weltStatus r) r 0
      ([regWeltStat s.welt, regWeltCtl s.welt, s.welt.event, regWeltFlow s.welt, regWeltTest s.welt] ++
        (List.range 7).map (regWeltSense s.welt)) s) ∧
    (Ready 0x250 r s → Answered 0x250 (.stewardStatus r) r 0
      [mkW [(16, s.stew.a.term), (4, s.stew.a.holder % 64), (3, bn s.stew.a.referee), (2, bn s.stew.a.grantHeld),
            (1, bn s.stew.b.grantHeld), (0, bn (pushFresh s))],
       mkW [(16, s.stew.b.term), (4, s.stew.b.holder % 64), (3, bn s.stew.b.referee)],
       mkW [(16, s.stew.rackEntry), (0, pushAge s)]] s) ∧
    (Ready 0x400 r s → Answered 0x400 (.memStatus r) r 0
      ((List.range 6).map (fun h => regStackStat (stackOf s h)) ++ [w32 s.mem.systemStack]) s) ∧
    (Ready 0x602 r s → Answered 0x602 (.timeGet r) r 0
      [w32 s.log.elapsed, hi32 s.log.elapsed, w32 (rowTime s), hi32 (rowTime s), s.log.powerOn, w32 s.row.epoch,
       regRowTsync s.row] s) ∧
    (Ready 0x703 r s → Answered 0x703 (.fwStatus r) r 0
      [regGenFw s, mkW [(16, fwByte s.sec.isl), (8, fwByte s.sec.sec), (0, fwByte s.sec.mp)], fwRels s.sec.mp,
       fwRels s.sec.sec, fwRels s.sec.isl] s) ∧
    (Ready 0x803 r s → Answered 0x803 (.secKeyStatus r) r 0
      ([regSecStat s, regSecKeys s] ++ (List.range 8).map fun k =>
        if k < 4 ∨ s.sec.ownerKeys.getLsbD (k - 4) = true then Config.keyDigest k else 0) s)

/-- Reports that depend on a parameter, on the MP or on the power state: LOOP_STATUS of a slot, ROW_STATUS of a
channel, LOG_STATUS with and without the MP, and the three reports of the compute domain, DOMAIN_OFF outside S0
and S1 (R91, R184, R344, R433, R472, R488). -/
def Obligations.ReportsByState : Prop :=
  ∀ (r : Req) (s : State),
    (Ready 0x213 r s → Answered 0x213 (.loopStatus r) r 0
      (configWords (slotArg r.words) s.isl.lead (slotOf s (slotArg r.words)) ++ coeffWords (slotOf s (slotArg r.words)) ++
        [regLoopStat (slotOf s (slotArg r.words)), regLoopSp (slotOf s (slotArg r.words)),
         regLoopTarget (slotOf s (slotArg r.words)), regLoopOut (slotOf s (slotArg r.words))]) s) ∧
    (Ready 0x241 r s → ∀ b, b = (wd r.words 0).getLsbD 0 → Answered 0x241 (.rowStatus r) r 0
      [regRowCtl s b, regRowNbt (rowCh s b), regRowDbt (rowCh s b), regRowStat s b, (rowCh s b).event,
       w32 (rowCh s b).lateDrop, w32 (rowCh s b).unmatched, regRowTsync s.row] s) ∧
    (Ready 0x600 r s → s.sec.mpRun = true → Answered 0x600 (.logStatus r) r 0
      [regLog s 0x00, regLog s 0x04, regLog s 0x08, regLog s 0x0C, regLog s 0x10, regLog s 0x14,
       w32 (oldestIsl s.log)] s) ∧
    (Ready 0x600 r s → s.sec.mpRun = false → Answered 0x600 (.logStatus r) r 0
      [mkW [(0, s.log.islLost)], 0, 0, regLog s 0x0C, 0, 0, w32 (oldestIsl s.log)] s) ∧
    (Ready 0x308 r s → inS0S1 s = true → Answered 0x308 (.lastStatus r) r 0
      [regLast s 0x00, regLast s 0x04, regLast s 0x08, regLast s 0x18] s) ∧
    (Ready 0x308 r s → inS0S1 s = false → Answered 0x308 (.lastStatus r) r 7 [] s) ∧
    (Ready 0x412 r s → inS0S1 s = true → Answered 0x412 (.repairStatus r) r 0
      ([mkW [(8, sparesFree s), (5, stacksLeft s), (2, s.mem.systemStack), (1, bn s.sec.repairA), (0, bn s.sec.repairB)],
        w32 (retiredStacks s), w32 (changesWaiting s), hi32 (changesWaiting s)] ++
        (List.range 4).map fun k => (s.lace.retired >>> (32 * k)).setWidth 32) s) ∧
    (Ready 0x412 r s → inS0S1 s = false → Answered 0x412 (.repairStatus r) r 7 [] s) ∧
    (Ready 0x500 r s → inS0S1 s = true → Answered 0x500 (.laceStatus r) r 0
      [regLace s 0x00, regLace s 0x04, mkW [(16, activeIn s 96 127), (0, activeIn s 0 95)], regLace s 0x08] s) ∧
    (Ready 0x500 r s → inS0S1 s = false → Answered 0x500 (.laceStatus r) r 7 [] s)

/-! ## Command windows -/

/-- The words of a packet gather in its window; the last one posts it, and the checks of R207 come in their
order: a tag in flight is rejected whatever else is wrong, then VER, LEN above 31, the opcode, too few words, a
serving side that is off, and a full context RAM. A packet that passes them waits last (R204 to R211, R219). -/
def Obligations.PacketPosting : Prop :=
  ∀ (p : Port) (w : Word) (s : State), s.isl.on = true → portReach s p = true →
    (∀ h ws, (s.win p).part ++ [w] = h :: ws → ws.length ≠ hdrLen h →
      exec (.cmdReqWrite p w) s = .next (s.onWin p fun x => { x with part := h :: ws })) ∧
    (∀ h ws, (s.win p).part ++ [w] = h :: ws → ws.length = hdrLen h →
      ∃ t, exec (.cmdReqWrite p w) s = .next t ∧ OnlyPorts s t ∧ (t.win p).part = [] ∧
        (let ver := BitVec.ofNat 4 (fld h 28 4)
         let op := fld h 16 12
         let tag := BitVec.ofNat 6 (fld h 0 6)
         let refused := fun (v st : Nat) (pay : List Word) =>
           t.port.ctx = s.port.ctx ∧
           sget (t.win p).replies tag.toNat = some { ver := v, opcode := op, status := st, words := pay }
         if inFlight s p tag = true then
           t.port.ctx = s.port.ctx ∧ (t.win p).replies = (s.win p).replies ∧ (t.win p).rejected = true ∧
             (t.win p).rejTag = tag ∧ (t.win p).rejCount = min 0xFFFF ((s.win p).rejCount + 1)
         else if ver ≠ 2 ∧ ver ≠ 3 then refused 3 5 [0x32#32]
         else if 31 < hdrLen h then refused (replyVer ver) 9 []
         else
           match opInfo op with
           | none => refused (replyVer ver) 4 []
           | some (n, v2) =>
             if ver = 2 ∧ v2 = false then refused 2 4 []
             else if hdrLen h < opWords op n ws then refused (replyVer ver) 9 []
             else if serverOf s p op ws = .off then refused (replyVer ver) 7 []
             else if serverOf s p op ws ≠ .cobbler ∧ 256 ≤ ctxInUse s then refused (replyVer ver) 3 []
             else (t.win p).replies = (s.win p).replies ∧
               t.port.ctx = s.port.ctx ++ [{ port := p, tag := tag, ver := replyVer ver, op := op
                                             words := keptWords op ws, inRam := serverOf s p op ws != .cobbler }]))

/-- Bulk words: an open inbound transfer takes a word and counts it, the last one delivers the object to its
target and returns the window to idle; an outbound one gives its next word; without one the word is DATA_IDLE
(R210, R212, R216, R222).
The model's own choices in it: notes/assumptions/96. -/
def Obligations.BulkWords : Prop :=
  ∀ (p : Port) (w : Word) (s : State), s.isl.on = true → portReach s p = true →
    ((s.win p).active = true → (s.win p).outbound = false → 1 < (s.win p).left →
      exec (.cmdDataInWrite p w) s =
        .next (s.onWin p fun x => { x with inWords := x.inWords ++ [w], left := x.left - 1 })) ∧
    ((s.win p).active = true → (s.win p).outbound = false → (s.win p).left = 1 →
      ∃ t, exec (.cmdDataInWrite p w) s = .next t ∧ (t.win p).active = false ∧ (t.win p).left = 0 ∧
        t.port.ctx = s.port.ctx ∧
        ((s.win p).target = 1 → t.last.standby = (s.win p).inWords ++ [w] ∧
          t = { s with port := t.port, last := t.last }) ∧
        ((s.win p).target = 2 → (s.win p).fw < 3 → (t.sec.fw (s.win p).fw).words = (s.win p).inWords ++ [w] ∧
          (t.sec.fw (s.win p).fw).complete = true ∧ t = { s with port := t.port, sec := t.sec }) ∧
        ((s.win p).target = 3 → t.isl.calLoaded = some ((s.win p).inWords ++ [w]) ∧
          t = { s with port := t.port, isl := t.isl })) ∧
    ((s.win p).active = false ∨ (s.win p).outbound = true →
      exec (.cmdDataInWrite p w) s = .next (s.onWin p fun x => { x with dataIdle := true })) ∧
    ((s.win p).active = true → (s.win p).outbound = true → 1 < (s.win p).left →
      ∃ t, exec (.cmdDataOutRead p) s = .next t ∧ OnlyPorts s t ∧ t.port.rdata = [wd (s.win p).outWords 0] ∧
        t.win p = { s.win p with outWords := (s.win p).outWords.drop 1, left := (s.win p).left - 1 }) ∧
    ((s.win p).active = true → (s.win p).outbound = true → (s.win p).left = 1 →
      ∃ t, exec (.cmdDataOutRead p) s = .next t ∧ OnlyPorts s t ∧ t.port.rdata = [wd (s.win p).outWords 0] ∧
        (t.win p).active = false ∧ (t.win p).left = 0) ∧
    ((s.win p).active = false ∨ (s.win p).outbound = false →
      ∃ t, exec (.cmdDataOutRead p) s = .next t ∧ OnlyPorts s t ∧ t.port.rdata = [0] ∧ (t.win p).dataIdle = true)

/-- Replies and commands end. Writing 1 to DONE bits releases those tags and no others (R215). A started command that
has no answer of the processor it needs is answered TIMEOUT, or ends without a reply where its port was reset; without
such a command nothing changes (R220, R225). CMD_ABORT closes the port's open transfer, finds nothing, ends a command
that has not started with ABORTED_RESET, or answers BUSY where the command has started (R228).
The model's own choices in it: notes/assumptions/12 (FOUND in a BUSY reply, the order in which CMD_ABORT acts) and
139. -/
def Obligations.RepliesEnd : Prop :=
  ∀ (p : Port) (s : State), s.isl.on = true →
    (∀ (hi : Bool) (mask : Word), portReach s p = true → ∃ t, exec (.cmdDoneRelease p hi mask) s = .next t ∧
      OnlyPorts s t ∧ t.port.ctx = s.port.ctx ∧ (∀ q, q ≠ p → t.win q = s.win q) ∧
      (t.win p).replies = (s.win p).replies.filter fun r =>
        !(decide (r.1 / 32 = hi.toNat) && mask.getLsbD (r.1 % 32))) ∧
    (∀ (tag : BitVec 6) (pre post : List Ctx) (e : Ctx), s.port.ctx = pre ++ e :: post →
      (∀ x ∈ pre, ¬ (x.port = p ∧ x.tag = tag)) → e.port = p → e.tag = tag → unanswered s e = true →
      Does (.cmdPeerTimeout p tag) s fun t => OnlyPorts s t ∧ t.port.ctx = pre ++ post ∧
        (∀ q, q ≠ p → t.win q = s.win q) ∧
        (e.silent = false →
          sget (t.win p).replies tag.toNat = some { ver := e.ver, opcode := e.op, status := 0xA, words := [] }) ∧
        (e.silent = true → t.win p = s.win p)) ∧
    (∀ tag : BitVec 6, (∀ e ∈ s.port.ctx, e.port = p → e.tag = tag → unanswered s e = false) →
      exec (.cmdPeerTimeout p tag) s = .next s) ∧
    (∀ r : Req, r.port = p → Ready 0x002 r s → (wd r.words 0).getLsbD 9 = true →
      Does (.cmdAbort r) s fun t => Served t ∧ (t.win p).active = false ∧ (∀ q, q ≠ p → t.win q = s.win q) ∧
        ((s.win p).active = true → (t.win p).xferAborted = true) ∧
        ((s.win p).active = false → OnlyPorts s t) ∧
        Replied 0x002 r 0 [mkW [(9, 1), (8, bn (s.win p).active), (0, fld (wd r.words 0) 0 6)]] t) ∧
    (∀ r : Req, r.port = p → Ready 0x002 r s → (wd r.words 0).getLsbD 9 = false →
      Answered 0x002 (.cmdAbort r) r 0 [mkW [(0, fld (wd r.words 0) 0 6)]] s) ∧
    (∀ (r : Req) (x : Ctx), r.port = p → portReach s p = true → s.port.ctx = [x] → x.port = p → x.silent = false →
      x.tag ≠ r.tag → sget (s.win p).replies r.tag.toNat = none →
      postChecks s p r.ver 0x002 r.words.length r.words = none → serverOf s p 0x002 (keptWords 0x002 r.words) ≠ .off →
      (wd r.words 0).getLsbD 9 = false → fld (wd r.words 0) 0 6 = x.tag.toNat →
      (x.started = false → Does (.cmdAbort r) s fun t => OnlyPorts s t ∧ Served t ∧
        sget (t.win p).replies x.tag.toNat = some { ver := x.ver, opcode := x.op, status := 8, words := [] } ∧
        Replied 0x002 r 0 [mkW [(8, 1), (0, x.tag.toNat)]] t) ∧
      (x.started = true → Does (.cmdAbort r) s fun t => OnlyPorts s t ∧ t.port.ctx = [x] ∧
        sget (t.win p).replies x.tag.toNat = sget (s.win p).replies x.tag.toNat ∧
        Replied 0x002 r 2 [mkW [(8, 1), (0, x.tag.toNat)]] t))

/-! ## Resets of masters and ports -/

/-- What a reset of masters does to mailboxes and locks: a full channel of a receiver is flushed, a sender's epoch
counts, and a lock of theirs is freed and marked broken (R242, R243, R246). After a reset of the MP it no longer
runs, every transfer is closed, commands without a reply are answered ABORTED_RESET, the power manager's own
registers and the LOG counters take their reset values, and what Cobbler holds, the record queue and the running
Last stay (R226, R283, R464, R473). -/
def Obligations.MasterResets : Prop :=
  (∀ s : State, s.isl.on = true →
     (∃ t, exec (.trayPortReset true) s = .next t ∧ ResetOf [3] s t ∧ t.port.tray = {} ∧ t.port.bus = {} ∧
       t.port.tbRst = true ∧
       (s.port.tray.active = false → t = { s with port := t.port, mbx := t.mbx })) ∧
     exec (.trayPortReset false) s = .next { s with port := { s.port with tbRst := false } } ∧
     (∃ t, exec .perstAssert s = .next t ∧ ResetOf [1, 2] s t ∧ t.port.host = {} ∧ t.port.perst = true ∧
       (s.port.host.active = false → t = { s with port := t.port, mbx := t.mbx })) ∧
     (mgmtOn s = true → ∃ t, exec .controlFlr s = .next t ∧ ResetOf [1] s t ∧ t.port.host = {} ∧
       (s.port.host.active = false → t = { s with port := t.port, mbx := t.mbx })) ∧
     (∃ t, exec .debugTapReset s = .next t ∧ ResetOf [7] s t ∧ t.port.debug = {} ∧
       ((s.win .debug).active = false → t = { s with port := t.port, mbx := t.mbx })) ∧
     (mgmtOn s = true → ∃ t, exec .securityProcessorReset s = .next t ∧ ResetOf [6] s t ∧ t.port.security = {} ∧
       t.sec.secRun = false ∧ t.sec.nonce = none ∧ t.sec.bindLock = s.sec.bindLock) ∧
     (∃ t, exec .islandProcessorReset s = .next t ∧ ResetOf [5] s t ∧ t.port.cobbler = {} ∧ t.isl.fwRun = false ∧
       t.isl.procReset = true ∧ t.ctl = s.ctl ∧ t.vlv = s.vlv ∧ t.welt = s.welt ∧ t.row = s.row ∧
       t.isl.forced = s.isl.forced) ∧
     exec .dataFlr s = .next s) ∧
  (∀ s : State, s.isl.on = true → mgmtOn s = true → s.sec.mp.trial = false →
     ∃ t, exec .mpReset s = .next t ∧ t.sec.mpRun = false ∧ t.pwr.stewardW = 0xFFFF ∧ t.pwr.tThrottle = 0x64 ∧
       t.pwr.keepWarm = true ∧ t.pwr.dReq = 0 ∧ t.pwr.hostW = s.pwr.hostW ∧ t.pwr.event = s.pwr.event ∧
       t.pwr.wakeCause = s.pwr.wakeCause ∧ t.pwr.brakeCnt = s.pwr.brakeCnt ∧ t.pwr.inForceW = s.pwr.inForceW ∧
       t.pwr.dApplied = 0 ∧ t.mbx.bridgeRetry = [] ∧ t.log.islLost = 0 ∧ t.log.suppr = 0 ∧ t.log.mainQueue = s.log.mainQueue ∧ t.core = s.core ∧ t.mem = s.mem ∧
       t.lace = s.lace ∧ t.ctl = s.ctl ∧ t.row = s.row ∧
       (∀ p, s.sec.mpRun = true → (t.win p).active = false) ∧
       (∀ e, s.sec.mpRun = true → s.port.ctx = [e] → e.silent = false →
         sget (t.win e.port).replies e.tag.toNat = some { ver := e.ver, opcode := e.op, status := 8, words := [] }))

/-! ## Mailboxes, locks and the tray bus -/

/-- A channel's messages: a sender's words while it is empty, DOORBELL, the receiver's acknowledgement, and the
writes that do not fit the binding, which are counted and logged. The tray's DOORBELL waits, without effect, for the
island's answer, which posts or refuses it; every other master's acts at once (R235 to R242, R249). A PCIe write
stores its enabled bytes, any other master's whole words (R255). -/
def Obligations.MailboxMessages : Prop :=
  ∀ (m : Master) (ch k : Fin 16) (be : BitVec 4) (w : Word) (code : Byte) (s : State),
    s.isl.on = true → masterReach s m = true →
    let x := mbxCh s ch.val
    let sends := x.bound = true ∧ x.sender = m.id
    let takes := x.bound = true ∧ x.receiver = m.id
    let mask := if m = .hostCtl ∨ m = .hostData then beMask be else 0xFFFFFFFF#32
    let others := fun t : State => ∀ c, c ≠ ch.val → mbxCh t c = mbxCh s c
    let violation := fun t : State =>
      t.mbx = { s.mbx with violCount := min 0xFFFF (s.mbx.violCount + 1), violMaster := m.id, violChannel := ch.val } ∧
      Logged Ev.mbxAccessDenied [] s t ∧ t = { s with mbx := t.mbx, log := t.log, port := t.port }
    let refused := fun t : State => mbxCh t ch.val = { x with refused := true } ∧ others t ∧
      t = { s with mbx := t.mbx, port := t.port }
    let posted := fun t : State =>
      mbxCh t ch.val = { x with doorbell := true, msgEpoch := x.senderEpoch, ackValid := false } ∧ others t ∧
      t.port.vec1 = s.port.vec1 + (if x.receiver = 1 ∧ deviceWakes s = false then 1 else 0) ∧
      t.port.dvec0 = s.port.dvec0 + (if x.receiver = 2 ∧ deviceWakes s = false then 1 else 0) ∧
      (deviceWakes s = false ∨ (x.receiver ≠ 1 ∧ x.receiver ≠ 2) → t.pwr = s.pwr) ∧
      (deviceWakes s = true → x.receiver = 1 ∨ x.receiver = 2 →
        t.pwr = { s.pwr with wakePin := true, wakeCause := s.pwr.wakeCause ||| 0x10, wakeDue := t.pwr.wakeDue } ∧
        t.pwr.wakeDue.getLsbD 4 = true) ∧
      t.port.ended = .ok ∧ t = { s with mbx := t.mbx, port := t.port, pwr := t.pwr }
    let turnedAway := fun t : State =>
      mbxCh t ch.val = { x with ackCode := 0xFD, ackValid := true } ∧ others t ∧
      t.port.ended = (if m = .hostCtl ∨ m = .hostData then .ok else .err) ∧ t = { s with mbx := t.mbx, port := t.port }
    let rings := fun (c : Instr) (P : State → Prop) =>
      (sends → x.doorbell = false → masterOn s x.receiver = true → Does c s fun t => P t ∧ posted t) ∧
      (sends → x.doorbell = false → masterOn s x.receiver = false → Does c s fun t => P t ∧ turnedAway t) ∧
      (sends → x.doorbell = true → Does c s fun t => P t ∧ refused t) ∧
      (¬ sends → Does c s fun t => P t ∧ violation t)
    (sends → x.doorbell = false → Does (.mbxDataWrite m ch k be w) s fun t =>
      mbxCh t ch.val = { x with data := x.data.set k.val ((x.data[k] &&& ~~~mask) ||| (w &&& mask)) } ∧
      others t ∧ t.mbx.locks = s.mbx.locks ∧ t = { s with mbx := t.mbx }) ∧
    (sends → x.doorbell = true → Does (.mbxDataWrite m ch k be w) s refused) ∧
    (¬ sends → Does (.mbxDataWrite m ch k be w) s violation) ∧
    (m ≠ .tray → rings (.mbxDoorbell m ch) fun _ => True) ∧
    (m = .tray → busWaits s = false → exec (.mbxDoorbell m ch) s =
      .next { s with port := { s.port with bus := { s.port.bus with doorbellWait := some (ch.val, 1) } } }) ∧
    (m = .tray → s.port.bus.doorbellWait = some (ch.val, 1) →
      rings .trayDoorbellAnswer fun t => t.port.bus = { s.port.bus with doorbellWait := none }) ∧
    (takes → x.doorbell = true → x.msgEpoch = x.senderEpoch → Does (.mbxAck m ch code) s fun t =>
      mbxCh t ch.val = { x with ackCode := if code.toNat < 0xF0 then code else 0xEF, ackValid := true, doorbell := false } ∧
      others t ∧ t = { s with mbx := t.mbx, port := t.port }) ∧
    (takes → x.doorbell = true → x.msgEpoch ≠ x.senderEpoch → Does (.mbxAck m ch code) s fun t =>
      mbxCh t ch.val = { x with doorbell := false } ∧ others t ∧ t = { s with mbx := t.mbx, port := t.port }) ∧
    (¬ (takes ∧ x.doorbell = true) → Does (.mbxAck m ch code) s violation)

/-- The hardware locks: a read of a free lock returns 0 and makes its reader the owner, a read of a held lock returns
the owner's ID, to the owner as well, and changes nothing, a write of 0 to VALUE by the owner frees the lock, and any
other write has no effect; on the tray bus a read of the low half acts and the high half reads 0 (R244). A read of
LOCK_STAT returns the break and clears it. -/
def Obligations.LocksHaveOneOwner : Prop :=
  ∀ (m : Master) (n : Fin 32) (w : Word) (s : State), s.isl.on = true → masterReach s m = true →
    let l := lockOf s n.val
    let only := fun (x : LockSt) (t : State) => lockOf t n.val = x ∧ (∀ k, k ≠ n.val → lockOf t k = lockOf s k) ∧
      t = { s with mbx := { s.mbx with locks := t.mbx.locks }, port := t.port }
    Does (.lockRead m n) s (fun t =>
      t.port = { s.port with rdata := [BitVec.ofNat 32 l.owner], ended := .ok } ∧
      only { l with owner := if l.owner = 0 then m.id else l.owner } t) ∧
    (w.toNat % 8 = 0 → l.owner = m.id →
      Does (.lockRelease m n w) s fun t => t.port = s.port ∧ only { l with owner := 0 } t) ∧
    (¬ (w.toNat % 8 = 0 ∧ l.owner = m.id) → Does (.lockRelease m n w) s fun t => t.port = s.port ∧ only l t) ∧
    (l.brokenOwner < 8 → Does (.lockStatRead m n) s fun t =>
      t.port = { s.port with rdata := [BitVec.ofNat 32 (2 * l.brokenOwner + l.broken.toNat)], ended := .ok } ∧
      only { l with broken := false, brokenOwner := 0 } t) ∧
    (l.owner ≠ 0 → ∃ t, exec (.lockRead m n) s = .next t ∧ t.mbx = s.mbx ∧ t.port.rdata = [BitVec.ofNat 32 l.owner]) ∧
    (∀ addr : BitVec 16, s.port.tbRst = false → busWaits s = false → addr.toNat = 4 * n.val →
      Does (.trayLowHalfRead addr) s fun t =>
        t.port.rdata = [BitVec.ofNat 32 l.owner &&& 0xFFFF#32] ∧ t.port.ended = .ok ∧
        only { l with owner := if l.owner = 0 then 3 else l.owner } t) ∧
    (∀ addr : BitVec 16, s.port.tbRst = false → busWaits s = false → addr.toNat = 4 * n.val + 2 →
      Does (.trayLowHalfRead addr) s fun t => t.port.rdata = [0] ∧ t.port.ended = .ok ∧ only l t)

/-- The tray bus in halves. While `TB_RST#` is low or a cycle waits, no other is taken; an odd address ends in error.
Outside the fast block a read waits for the island, the low half captures the register, and the next read of its high
half returns what was captured. A low half written is held, and the high half commits both through the write buffer.
A word for an open inbound transfer that finds its buffer full waits for room (whether it is full is free,
notes/assumptions/140). A drained buffer lets a waiting write go on; a data write that has waited too long is not
accepted and ends in error; without a waiting cycle the drain, the time-out, the completion and the answer change
nothing else (R20, R191 to R193, R249).
The model's own choices in it: notes/assumptions/103 and 140. -/
def Obligations.TrayBusCycles : Prop :=
  ∀ (addr data : BitVec 16) (s : State), s.isl.on = true →
    let a := addr.toNat
    let idle := s.port.tbRst = false ∧ busWaits s = false
    let onlyBus := fun (f : TrayBus → TrayBus) => Host.Outcome.next { s with port := { s.port with bus := f s.port.bus } }
    (¬ idle → exec (.trayLowHalfRead addr) s = .next s ∧ exec (.trayLowHalfWrite addr data) s = .next s) ∧
    (idle → a % 2 = 1 →
      exec (.trayLowHalfRead addr) s = .next (answered [] .err s) ∧
      exec (.trayLowHalfWrite addr data) s = .next (answered [] .err s)) ∧
    (idle → a % 2 = 0 → 0x100 ≤ a → exec (.trayLowHalfRead addr) s = onlyBus fun b => { b with readWait := some a }) ∧
    (idle → a % 4 = 0 → a < 0x80 →
      Does (.trayLowHalfRead addr) s fun t => t.port.rdata = [BitVec.ofNat 32 (lockOf s (a / 4)).owner &&& 0xFFFF#32] ∧
        t.port.ended = .ok ∧
        (lockOf t (a / 4)).owner = (if (lockOf s (a / 4)).owner = 0 then 3 else (lockOf s (a / 4)).owner) ∧
        t = { s with port := t.port, mbx := { s.mbx with locks := t.mbx.locks } }) ∧
    (s.port.bus.wbuf = false → s.port.bus.readWait = some a → a % 4 = 0 → 0x1000 ≤ a → a < 0x2000 →
      Does .traySlowReadComplete s fun t =>
        t.port = { s.port with
          bus := { s.port.bus with readWait := none, low := sput s.port.bus.low a (regMap s .tray (a - 0x1000)) }
          rdata := [regMap s .tray (a - 0x1000) &&& 0xFFFF#32], ended := .ok } ∧
        t = { s with port := t.port }) ∧
    (∀ (b : Nat) (v : Word), s.port.bus.wbuf = false → s.port.bus.readWait = some (b + 2) → b % 4 = 0 → 0x80 ≤ b →
      sget s.port.bus.low b = some v → Does .traySlowReadComplete s fun t =>
        t.port = { s.port with bus := { s.port.bus with readWait := none, low := sdel s.port.bus.low b }
                               rdata := [v >>> 16], ended := .ok } ∧
        t = { s with port := t.port }) ∧
    (s.port.bus.wbuf = true ∨ s.port.bus.readWait = none → exec .traySlowReadComplete s = .next s) ∧
    (idle → a % 4 = 0 → 0x100 ≤ a → s.port.bus.wbuf = false →
      Does (.trayLowHalfWrite addr data) s fun t =>
        t.port.bus = { s.port.bus with wbuf := true, held := some (a, data) } ∧ t.port.ended = .ok ∧
        t = { s with port := t.port }) ∧
    (idle → a % 4 = 0 → 0x100 ≤ a → s.port.bus.wbuf = true →
      exec (.trayLowHalfWrite addr data) s = onlyBus fun b => { b with waiting := some (a, data) }) ∧
    (∀ b l, idle → b = a - 2 → a % 4 = 2 → 0x2000 ≤ b → b < 0x2004 → s.port.bus.wbuf = false →
      s.port.bus.held = some (b, l) → (s.win .tray).part = [] → hdrLen (l.setWidth 32 ||| data.setWidth 32 <<< 16) ≠ 0 →
      Does (.trayLowHalfWrite addr data) s fun t =>
        (t.win .tray).part = [l.setWidth 32 ||| data.setWidth 32 <<< 16] ∧
        t.port.bus = { s.port.bus with wbuf := true, held := none } ∧ t = { s with port := t.port }) ∧
    (∀ l, idle → a = 0x2006 → s.port.bus.wbuf = false → s.port.bus.held = some (0x2004, l) →
      (s.win .tray).active = true → (s.win .tray).outbound = false → 1 < (s.win .tray).left →
      (Config.inboundFull s.free = false → Does (.trayLowHalfWrite addr data) s fun t =>
        (t.win .tray).inWords = (s.win .tray).inWords ++ [l.setWidth 32 ||| data.setWidth 32 <<< 16] ∧
        (t.win .tray).left = (s.win .tray).left - 1 ∧
        t.port.bus = { s.port.bus with wbuf := true, held := none } ∧ t.port.ended = .ok ∧
        t = { s with port := t.port, free := s.free + 1 }) ∧
      (Config.inboundFull s.free = true → Does (.trayLowHalfWrite addr data) s fun t =>
        t.port = { s.port with bus := { s.port.bus with roomWait := some (a, data) } } ∧
        t = { s with port := t.port, free := s.free + 1 })) ∧
    (s.port.bus.waiting = none → s.port.bus.roomWait = none →
      exec .trayWriteBufferDrain s = onlyBus fun b => { b with wbuf := false }) ∧
    (s.port.bus.waiting = some (a, data) → a % 4 = 0 → 0x100 ≤ a →
      Does .trayWriteBufferDrain s fun t =>
        t.port.bus = { s.port.bus with wbuf := true, waiting := none, roomWait := none, held := some (a, data) } ∧
        t.port.ended = .ok ∧ t = { s with port := t.port }) ∧
    (∀ x, s.port.bus.roomWait = some x → exec .trayDataWaitTimeout s = .next { s with
      port := { s.port with bus := { s.port.bus with roomWait := none }, rdata := [], ended := .err } }) ∧
    (∀ b d, s.port.bus.roomWait = none → s.port.bus.waiting = some (b, d) →
      if (0x2004 ≤ b ∧ b < 0x2008) ∨ (0x2200 ≤ b ∧ b < 0x2400) then
        exec .trayDataWaitTimeout s = .next { s with
          port := { s.port with bus := { s.port.bus with waiting := none }, rdata := [], ended := .err } }
      else exec .trayDataWaitTimeout s = .next s) ∧
    (s.port.bus.roomWait = none → s.port.bus.waiting = none → exec .trayDataWaitTimeout s = .next s) ∧
    (s.port.bus.doorbellWait = none → exec .trayDoorbellAnswer s = .next s)

/-- Writes through the register map of R15 end in a Completer Abort or an error where the block has no power, have no
effect where the map is reserved or read-only, and elsewhere load a writable field's enabled bytes, clear the W1C bits
written as 1, or free a lock of the writer's; of the internal masters and the tray every byte is enabled; the data
function reaches MBX and LOCK alone (R4, R15 to R17, R187, R255). Behind BAR0 the offsets of the PCIe functions name
their MSI-X BARs, the model's own numbering (notes/assumptions/138). -/
def Obligations.RegisterWrites : Prop :=
  ∀ (m : Master) (off : Nat) (be : BitVec 4) (w : Word) (s : State), s.isl.on = true → masterReach s m = true →
    off % 4 = 0 →
    let en := if m = .hostCtl ∨ m = .hostData then be else 0xF
    let ends := fun (e : BusEnd) => exec (.registerWrite m off be w) s =
      .next { s with port := { s.port with rdata := [], ended := e } }
    (off < 0x1000000 →
      (m = .hostCtl → blockOn s off = false → ends .completerAbort) ∧
      (m = .mp ∨ m = .cobbler ∨ m = .security ∨ m = .debug → blockOn s off = false → ends .err) ∧
      (m ≠ .tray → off < 0x1000 ∨ (0x1400 ≤ off ∧ off < 0x2000) ∨ (0x4000 ≤ off ∧ off < 0x10000) → ends .ok) ∧
      (m = .hostData → off < 0x2000 ∨ 0x4000 ≤ off → ends .ok) ∧
      (m = .tray → 0x1000 ≤ off → off < 0x2000 → exec (.registerWrite m off be w) s = .next s) ∧
      (m ≠ .tray → m ≠ .hostData → mgmtOn s = true →
        (off = 0x10010 → Does (.registerWrite m off be w) s fun t =>
          t.pwr = { s.pwr with event := s.pwr.event &&& ~~~(w &&& 0x3FF#32 &&& beMask en) } ∧
          t = { s with port := t.port, pwr := t.pwr }) ∧
        (off = 0x10014 → Does (.registerWrite m off be w) s fun t =>
          t.pwr = { s.pwr with wakeCause := s.pwr.wakeCause &&& ~~~(w &&& 0xFF#32 &&& beMask en) } ∧
          t = { s with port := t.port, pwr := t.pwr }) ∧
        (off = 0x10020 → Does (.registerWrite m off be w) s fun t =>
          t.pwr = { s.pwr with
            brakeCnt := ((BitVec.ofNat 32 s.pwr.brakeCnt &&& ~~~beMask en) ||| (w &&& beMask en)).toNat } ∧
          t = { s with port := t.port, pwr := t.pwr }) ∧
        (0x800000 ≤ off ∨ (0x70000 ≤ off ∧ off < 0x80000) → ends .ok)) ∧
      (m ≠ .tray → ∀ n : Fin 32, off = 0x3000 + 4 * n.val → (lockOf s n.val).owner = m.id →
        w.toNat % 8 = 0 → en.getLsbD 0 = true → Does (.registerWrite m off be w) s fun t => (lockOf t n.val).owner = 0 ∧
          (∀ k, k ≠ n.val → lockOf t k = lockOf s k) ∧ t = { s with port := t.port, mbx := t.mbx })) ∧
    (m = .hostCtl ∨ m = .hostData → 0x1000000 ≤ off → Does (.registerWrite m off be w) s fun t =>
      t.port = { s.port with rdata := [], ended := .ok, msix0 := t.port.msix0, msix1 := t.port.msix1 } ∧
      (m = .hostCtl → t.port.msix1 = s.port.msix1) ∧ (m = .hostData → t.port.msix0 = s.port.msix0) ∧
      t = { s with port := t.port })

/-- The HBM aperture: outside S0 and S1 a Completer Abort, elsewhere a read returns the stack's bytes, poisoned
where a unit is, and a write stores its bytes and no others; an access that the aperture does not serve reads zeros or
is ignored (R188). What its requests add to the stack's counters is free within their bounds (R118, R120;
notes/assumptions/73).
The model's own choices in it: notes/assumptions/102. -/
def Obligations.ApertureAccesses : Prop :=
  ∀ (off len : Nat) (data : List Byte) (s : State), s.isl.on = true → MemoriesCanonical s →
    let counted := fun t : State => t = { s with port := t.port, mem := t.mem, free := t.free } ∧ StackCounts s t
    (∀ wr, inS0S1 s = false → exec (.apertureAccess wr off len data) s = .next (answered [] .completerAbort s)) ∧
    (∀ wr, inS0S1 s = true → masterReach s .hostData = false → exec (.apertureAccess wr off len data) s = .next s) ∧
    (inS0S1 s = true → masterReach s .hostData = true →
      (apServed s off len = true → apPoison s off len = false →
        Does (.apertureAccess false off len data) s fun t =>
          t.port.rdata = bytesWords ((List.range len).map fun i => s.mem.hbm.get (hbmBase (apStack off) + apAddr off + i)) ∧
          t.port.ended = .ok ∧ t.mem.hbm = s.mem.hbm ∧ t.mem.hbmPoison = s.mem.hbmPoison ∧ counted t) ∧
      (apServed s off len = true → apPoison s off len = true →
        Does (.apertureAccess false off len data) s fun t => t.port.ended = .poisoned ∧ t.mem.hbm = s.mem.hbm ∧
          t.mem.hbmPoison = s.mem.hbmPoison ∧ counted t) ∧
      (apServed s off len = false →
        exec (.apertureAccess false off len data) s = .next (answered (List.replicate ((len + 3) / 4) 0) .ok s)) ∧
      (apServed s off data.length = false →
        exec (.apertureAccess true off len data) s = .next (answered [] .ok s)) ∧
      (apServed s off data.length = true →
        Does (.apertureAccess true off len data) s fun t => t.port.ended = .ok ∧
          (∀ i, i < data.length → t.mem.hbm.get (hbmBase (apStack off) + apAddr off + i) = data.getD i 0) ∧
          (∀ a, a < hbmBase (apStack off) + apAddr off ∨ hbmBase (apStack off) + apAddr off + data.length ≤ a →
            t.mem.hbm.get a = s.mem.hbm.get a) ∧ counted t))

/-! ## Rails and power states -/

/-- A power-up goes from rail to rail: each PG that rises lets the next enables rise, the stacks train from VDDQ
on, the core voltage is set and `PWR_EN_CORE_A` rises before the other core rails, and the target is reached when
every rail is good, no stack trains and the MP has been released or its boot has failed; a request of a host's resume
is answered then and `WAKE#` released (R122, R260, R262, R271). A rail that is not rising changes nothing.
The model's own choices in it: notes/assumptions/144. -/
def Obligations.PowerUpRails : Prop :=
  ∀ (q : PwrSeq) (s : State), s.isl.on = true → s.pwr.seq = some q → q.up = true →
    let rises := fun r : Fin 9 => s.pwr.en.getLsbD r.val = true ∧ s.pwr.pg.getLsbD r.val = false
    let good := fun r : Nat => s.pwr.pg ||| (1#9 <<< r)
    let trained := fun t : State => ∀ h : Fin 6, t.mem.stk[h] =
      { s.mem.stk[h] with st := if s.mem.stk[h].recRetired then .retired else .training }
    let up := mpSettled s = true ∧ stacksReady s = true ∧ ∀ r ∈ railsFor q.target, railUp s r = true
    (rises 0 → s.sec.mp.trial = false → s.sec.sec.trial = false → s.sec.repairA = true ∨ s.sec.repairB = true →
      Does (.pgRise 0) s fun t => t.pwr = { s.pwr with pg := good 0, en := s.pwr.en ||| 2 } ∧
        t.sec = { s.sec with debug := if s.sec.debug = 1 then 0 else s.sec.debug } ∧ t = { s with pwr := t.pwr, sec := t.sec }) ∧
    (rises 1 → exec (.pgRise 1) s = .next { s with pwr := { s.pwr with pg := good 1, en := s.pwr.en ||| 4 } }) ∧
    (rises 2 → Does (.pgRise 2) s fun t =>
      t.pwr = { s.pwr with pg := good 2, en := if q.target = .s2 then s.pwr.en else s.pwr.en ||| 8 } ∧ trained t ∧
      t = { s with pwr := t.pwr, mem := { s.mem with stk := t.mem.stk } }) ∧
    (rises 3 → exec (.pgRise 3) s =
      .next { s with pwr := { s.pwr with pg := good 3, en := s.pwr.en ||| 0x10, vset := coreMv s.pwr.clkMhz
                                         coreEnAt := some s.log.elapsed } }) ∧
    (∀ r : Fin 9, 4 ≤ r.val → r.val < 8 → rises r → s.core.recordLost = false →
      exec (.pgRise r) s = .next { s with pwr := { s.pwr with
        pg := good r.val
        en := if (good r.val).extractLsb' 4 4 = 0xF then s.pwr.en ||| 0x100 else s.pwr.en } }) ∧
    (rises 8 → Does (.pgRise 8) s fun t => t.pwr = { s.pwr with pg := good 8 }) ∧
    (∀ r : Fin 9, ¬ rises r → exec (.pgRise r) s = .next s) ∧
    (¬ up → exec .powerUpComplete s = .next s) ∧
    (up → q.thenS1 = false → q.host = false → q.req = none → s.core.recordLost = false → q.target ≠ .s2 →
      exec .powerUpComplete s = .next { s with pwr := { s.pwr with pstate := q.target, target := q.target, seq := none } }) ∧
    (up → q.thenS1 = true → q.host = false →
      s.core.recordLost = false → q.target ≠ .s2 →
      exec .powerUpComplete s = .next { s with pwr := { s.pwr with
        pstate := .s0, target := .s1, seq := some { q with up := false, target := .s1, atBoundary := true } } }) ∧
    (up → q.thenS1 = false → q.host = false →
      s.core.recordLost = false → q.target = .s2 → q.req = none → Does .powerUpComplete s fun t =>
        t.pwr = { s.pwr with pstate := .s2, target := .s2, seq := none } ∧
        (∀ h : Fin 6, s.mem.stk[h].st = .inService → t.mem.stk[h].st = .selfRefresh) ∧
        t = { s with pwr := t.pwr, mem := { s.mem with stk := t.mem.stk } }) ∧
    (∀ e : Ctx, up → q.thenS1 = false →
      s.core.recordLost = false → q.failed = false → q.req = some (e.port, e.tag) → s.port.ctx = [e] → e.op = 0x101 → e.silent = false →
      Does .powerUpComplete s fun t => t.pwr.pstate = q.target ∧ t.pwr.seq = none ∧ Served t ∧
        (q.host = true → t.pwr.wakePin = false) ∧
        sget (t.win e.port).replies e.tag.toNat =
          some { ver := e.ver, opcode := 0x101, status := 0, words := [stateWord (wd e.words 0), s.pwr.wakeCause] })

/-- Rails that do not rise, that go down and that fail. A PG that does not rise within 5 ms: PG_TIMEOUT,
FAILED_RAIL, the record, a failure that counts toward the lockout, and a power-down to S2 or, for a rail of the S2
group, to S3 (R263). A power-down goes from rail to rail; a PG that stays high is recorded and the sequence
continues; the last rail ends it (R264). A rail that is not enabled and good changes nothing when it fails; a
failure that the running sequence does not lower powers down to S3 with RAIL_FAULT; a dependent rail still up makes
it out of order: every enable falls, outputs go to their safe states and PDSEQ_RAILFAIL is latched unless Welt has
tripped; one that the running sequence is still to lower counts as already down, without RAIL_FAULT. Every rail that
was good and fails is named by FAILED_RAIL and counts toward the lockout (R259, R263, R265, R266, R289).
The model's own choices in it: notes/assumptions/58. -/
def Obligations.RailsDownAndFailing : Prop :=
  (∀ (r : Fin 9) (q : PwrSeq) (s : State), s.isl.on = true → s.pwr.seq = some q → q.up = true →
     s.pwr.en.getLsbD r.val = true → s.pwr.pg.getLsbD r.val = false →
     let tgt : PState := if r.val ≤ 2 then .s3 else .s2
     let fails := s.log.elapsed :: s.pwr.failures.filter fun x => decide (s.log.elapsed < x + 60000000)
     Does (.pgTimeout r) s fun t =>
       t.pwr.target = tgt ∧ t.pwr.failedRail = r.val ∧ t.pwr.event.getLsbD 6 = true ∧ t.pwr.en.getLsbD r.val = false ∧
       t.pwr.failures = fails ∧ t.pwr.lockout = (s.pwr.lockout || decide (3 ≤ fails.length)) ∧
       (inS0S1 s = false → (∀ x ∈ downOrder tgt, s.pwr.pg.getLsbD x = false) → q.req = none → s.vlv.forcedRail = false →
         t.pwr.pstate = tgt ∧ t.pwr.seq = none ∧ Logged Ev.pwrPgTimeout [(1, r.val)] s t ∧
         t = { s with pwr := t.pwr, log := t.log, mem := { s.mem with stk := t.mem.stk } })) ∧
  (∀ (q : PwrSeq) (s : State), s.isl.on = true → s.pwr.seq = some q → q.up = false → q.atBoundary = false →
     q.target = .s3 → q.req = none → s.vlv.forcedRail = false → s.pwr.pstate = .s2 ∨ s.pwr.pstate = .s3 → s.pwr.stuck = 0 →
     (s.pwr.pg = 7 → s.pwr.en = 3 → Does (.railDown 2) s fun t =>
       t.pwr = { s.pwr with pg := 3, en := 1 } ∧ t.mem.hbm = [] ∧ t.mem.hbmPoison = [] ∧
       (∀ h : Fin 6, t.mem.stk[h].st = if s.mem.stk[h].recRetired then .retired else .off) ∧
       t = { s with pwr := t.pwr, mem := t.mem }) ∧
     (s.pwr.pg = 7 → s.pwr.en = 3 → Does (.pgStuck 2) s fun t =>
       t.pwr = { s.pwr with stuck := 4, en := 1, event := s.pwr.event ||| 0x80 } ∧ t.mem.hbm = [] ∧
       Logged Ev.pwrPgStuck [(1, 2)] s t ∧ t = { s with pwr := t.pwr, mem := t.mem, log := t.log }) ∧
     (s.pwr.pg = 1 → s.pwr.en = 0 → exec (.railDown 0) s =
       .next { s with pwr := { s.pwr with pg := 0, en := 0, pstate := .s3, target := .s3, seq := none } }) ∧
     (∀ r : Fin 9, s.pwr.pg.getLsbD r.val = true → s.pwr.en.getLsbD r.val = false →
       Does (.railDown r) s fun t => t.pwr.pg.getLsbD r.val = false ∧
         ∀ x, t.pwr.en.getLsbD x = true → s.pwr.en.getLsbD x = true) ∧
     (∀ r : Fin 9, s.pwr.pg.getLsbD r.val = false ∨ s.pwr.en.getLsbD r.val = true →
       exec (.railDown r) s = .next s ∧ exec (.pgStuck r) s = .next s)) ∧
  (∀ (r : Fin 9) (s : State), s.isl.on = true →
     (railUp s r.val = false → exec (.railFailure r) s = .next s) ∧
     (railUp s r.val = true → Does (.railFailure r) s fun t =>
       t.pwr.failedRail = r.val ∧ t.pwr.pg.getLsbD r.val = false ∧
       t.pwr.failures = s.log.elapsed :: s.pwr.failures.filter fun x => decide (s.log.elapsed < x + 60000000)) ∧
     (railUp s r.val = true → toLower s r.val = false → Does (.railFailure r) s fun t =>
       t.pwr.event.getLsbD 5 = true ∧ t.pwr.target = .s3) ∧
     (railUp s r.val = true → toLower s r.val = true → ((dependents r.val).any fun d => s.pwr.pg.getLsbD d) = false →
       Does (.railFailure r) s fun t => t.pwr.event = s.pwr.event ∧ t.pwr.pdseq = s.pwr.pdseq) ∧
     (railUp s r.val = true → ((dependents r.val).any fun d => s.pwr.pg.getLsbD d) = true → Does (.railFailure r) s fun t =>
       t.pwr.en = 0 ∧ t.pwr.target = .s3 ∧
       (s.welt.leakTrip = false → t.pwr.pdseq = some r.val ∧ t.vlv.forcedRail = true) ∧
       (s.welt.leakTrip = true → t.pwr.pdseq = s.pwr.pdseq ∧ t.vlv.forcedRail = s.vlv.forcedRail)) ∧
     (r = 8 → s.pwr.en = 0x1FF → s.pwr.pg = 0x1FF → s.pwr.stuck = 0 → s.pwr.seq = none → s.last.st ≠ .running →
       s.welt.leakTrip = false → Does (.railFailure r) s fun t =>
         t.pwr.pg = 0xFF ∧ t.pwr.en = 0x7F ∧ t.pwr.pdseq = s.pwr.pdseq ∧ t.vlv = s.vlv ∧ t.last = s.last ∧ t.core = s.core ∧
         t.mem = s.mem ∧ t.sec = s.sec))

/-- PWR_STATE_SET, PWR_CAP_SET and the core clock. A state set is BUSY while a transition runs, on whatever port it
comes, done at once in the state it names, DENIED under the lockout or a latched trip, BUSY for a lower state while a
Last is RUNNING or PAUSED and for S0 while it is PAUSED; else the transition begins and the reply waits for it. A cap
is clamped to 240 to 1,600 W. A lower clock applies at a boundary, a higher one once READ_VOUT confirms its voltage
(R260, R261, R270, R282, R291).
The model's own choices in it: notes/assumptions/11, 142 and 143. -/
def Obligations.PowerOpcodes : Prop :=
  ∀ (r : Req) (s : State),
    let w := wd r.words 0
    let mhz := nearestOf clkLegal (fld w 16 12)
    let w1 := mkW [(16, mhz), (0, fld w 0 2)]
    let clocked := if mhz = 0 then s.pwr
      else if inS0S1 s then
        { s.pwr with clkReq := some mhz, vset := if s.pwr.clkMhz < mhz then coreMv mhz else s.pwr.vset }
      else { s.pwr with clkMhz := mhz, clkReq := none }
    let tgt := PState.ofCode (fld w 0 2)
    let waits := fun t : State => t.port.ctx = [ctxOf 0x101 r s] ∧ ∀ p, t.win p = s.win p
    let caused := if r.port = .host then s.pwr.wakeCause ||| 2 else if r.port = .tray then s.pwr.wakeCause ||| 4
                  else s.pwr.wakeCause
    (Ready 0x101 r s → s.pwr.seq.isSome = true → Answered 0x101 (.pwrStateSet r) r 2 [w1, s.pwr.wakeCause] s) ∧
    (∀ x : Ctx, s.isl.on = true → portReach s r.port = true → s.port.ctx = [x] → inTransition x = true →
      x.silent = false → ¬ (x.port = r.port ∧ x.tag = r.tag) → sget (s.win r.port).replies r.tag.toNat = none →
      postChecks s r.port r.ver 0x101 r.words.length r.words = none →
      serverOf s r.port 0x101 (keptWords 0x101 r.words) ≠ .off → peerUp s 0x101 (keptWords 0x101 r.words) = true →
      s.pwr.seq.isSome = true →
      Does (.pwrStateSet r) s fun t => OnlyPorts s t ∧ t.port.ctx = [x] ∧ Replied 0x101 r 2 [w1, s.pwr.wakeCause] t) ∧
    (Ready 0x101 r s → s.pwr.seq = none →
      (s.pwr.pstate = tgt → Ends 0x101 (.pwrStateSet r) r 0 [w1, s.pwr.wakeCause] s fun t =>
        t = { s with port := t.port
                     pwr := if r.port = .host then { clocked with wakePin := false, wakeDue := 0 } else clocked }) ∧
      (s.pwr.pstate = .s3 → tgt = .s1 → Answered 0x101 (.pwrStateSet r) r 7 [] s) ∧
      (s.pwr.pstate = .s3 ∧ (tgt = .s0 ∨ tgt = .s2) ∨ s.pwr.pstate = .s2 ∧ (tgt = .s0 ∨ tgt = .s1) → wakeRefused s = true →
        s.welt.test = none → Answered 0x101 (.pwrStateSet r) r 6 [w1, s.pwr.wakeCause] s) ∧
      (s.pwr.pstate = .s3 → tgt = .s0 ∨ tgt = .s2 → wakeRefused s = false → s.welt.test = none →
        Does (.pwrStateSet r) s fun t => waits t ∧
          t.pwr = { clocked with
            target := tgt, stuck := 0, en := s.pwr.en ||| 1, wakeCause := caused
            seq := some { up := true, target := tgt, host := r.port == .host, req := some (r.port, r.tag) } } ∧
          t.vlv.forcedRail = false ∧ t = { s with port := t.port, pwr := t.pwr, vlv := t.vlv }) ∧
      (s.pwr.pstate = .s2 → tgt = .s0 ∨ tgt = .s1 → wakeRefused s = false → s.welt.test = none →
        Does (.pwrStateSet r) s fun t => waits t ∧
          t.pwr = { clocked with
            target := .s0, stuck := 0, en := s.pwr.en ||| 8, wakeCause := caused
            seq := some { up := true, target := .s0, thenS1 := tgt == .s1, host := r.port == .host
                          req := some (r.port, r.tag) } } ∧
          t = { s with port := t.port, pwr := t.pwr, vlv := t.vlv, mem := { s.mem with stk := t.mem.stk } }) ∧
      (s.pwr.pstate = .s2 → tgt = .s3 → s.pwr.pg = 7 → s.pwr.en = 7 →
        Ends 0x101 (.pwrStateSet r) r 0 [w1, s.pwr.wakeCause] s fun t =>
          t.pwr = { clocked with target := .s3, stuck := 0, coreEnAt := none, en := 3, seq := some { target := .s3 } } ∧
          t = { s with port := t.port, pwr := t.pwr }) ∧
      (inS0S1 s = true → tgt = .s1 ∨ tgt = .s2 ∨ tgt = .s3 → s.pwr.pstate ≠ tgt → lastBusy s = true →
        Answered 0x101 (.pwrStateSet r) r 2 [w1, s.pwr.wakeCause] s) ∧
      (s.pwr.pstate = .s0 → tgt = .s1 → lastBusy s = false → Does (.pwrStateSet r) s fun t => waits t ∧
        t.pwr = { clocked with target := .s1, seq := some { target := .s1, atBoundary := true, req := some (r.port, r.tag) } } ∧
        t = { s with port := t.port, pwr := t.pwr }) ∧
      (inS0S1 s = true → tgt = .s2 ∨ tgt = .s3 → lastBusy s = false → s.pwr.pg = 0x1FF → s.pwr.en = 0x1FF →
        Does (.pwrStateSet r) s fun t => waits t ∧ t.pwr.target = tgt ∧ t.pwr.en = 0xFF ∧
          t.pwr.seq = some { target := tgt, req := some (r.port, r.tag) } ∧
          t = { s with port := t.port, pwr := t.pwr, lace := t.lace }) ∧
      (s.pwr.pstate = .s1 → tgt = .s0 → s.last.st = .paused →
        Answered 0x101 (.pwrStateSet r) r 2 [w1, s.pwr.wakeCause] s) ∧
      (s.pwr.pstate = .s1 → tgt = .s0 → s.last.st ≠ .paused → wakeRefused s = true →
        Answered 0x101 (.pwrStateSet r) r 6 [w1, s.pwr.wakeCause] s) ∧
      (s.pwr.pstate = .s1 → tgt = .s0 → s.last.st ≠ .paused → wakeRefused s = false →
        Does (.pwrStateSet r) s fun t => waits t ∧
          t.pwr = { clocked with
            target := .s0, wakeCause := caused
            seq := some { target := .s0, atBoundary := true, req := some (r.port, r.tag), host := r.port == .host } } ∧
          t = { s with port := t.port, pwr := t.pwr })) ∧
    (Ready 0x102 r s →
      let h := max 240 (min 1600 (fld w 0 16))
      Ends 0x102 (.pwrCapSet r) r 0 [BitVec.ofNat 32 h, regPwrLimitB s] s fun t =>
        t = { s with port := t.port, pwr := { s.pwr with hostW := h } }) ∧
    (s.isl.on = true →
      (s.pwr.clkReq = none ∨ computeOn s = false → exec .clockChangeApply s = .next s) ∧
      (∀ v, s.pwr.clkReq = some v → computeOn s = true → v ≤ s.pwr.clkMhz ∨ voltConfirmed s.pwr v = true →
        exec .clockChangeApply s = .next { s with pwr := { s.pwr with clkMhz := v, clkReq := none, vset := coreMv v } }) ∧
      (∀ v, s.pwr.clkReq = some v → s.pwr.clkMhz < v → voltConfirmed s.pwr v = false →
        exec .clockChangeApply s = .next s))

/-- The brake is recorded once while it is asserted, and in S0 the limit in force and the issue fall at once; each
rail that a PMBus alert or its time-out names fails, as RAIL_FAILURE has it, and the poll stores every rail's readings
(R24, R28, R260, R274). -/
def Obligations.BoardPowerEvents : Prop :=
  ∀ s : State, s.isl.on = true →
    (s.pwr.brake = true → exec .pwrBrakeAssert s = .next s) ∧
    (s.pwr.brake = false → exec .pwrBrakeAssert s = .next { s with pwr := { s.pwr with
      brake := true, event := s.pwr.event ||| 1, brakeCnt := min 0xFFFFFFFF (s.pwr.brakeCnt + 1)
      inForceW := if s.pwr.pstate = .s0 then min 400 s.pwr.inForceW else s.pwr.inForceW
      issue := if s.pwr.pstate = .s0 then min 4 s.pwr.issue else s.pwr.issue } }) ∧
    (exec .pwrBrakeDeassert s = .next { s with pwr := { s.pwr with brake := false } }) ∧
    (∀ rails : List (Fin 9), (∀ r ∈ rails, railUp s r.val = false) →
      exec (.smbalert rails) s = .next { s with pwr := { s.pwr with smbAlert := false } } ∧
      exec (.smbalertAraTimeout rails) s = .next { s with pwr := { s.pwr with smbAlert := true } }) ∧
    (∀ (r : Fin 9) (u : State), exec (.railFailure r) s = .next u →
      exec (.smbalert [r]) s = .next { u with pwr := { u.pwr with smbAlert := false } }) ∧
    (∀ (r : Fin 9) (u : State), exec (.railFailure r) { s with pwr := { s.pwr with smbAlert := true } } = .next u →
      exec (.smbalertAraTimeout [r]) s = .next u) ∧
    (∀ l : List (Nat × Nat), l.length = 9 → Does (.pmbusPoll l) s fun t =>
      (∀ i : Fin 9, t.pwr.vout[i] = (l.getD i.val (0, 0)).1 ∧ t.pwr.iout[i] = (l.getD i.val (0, 0)).2) ∧
      t = { s with pwr := { s.pwr with vout := t.pwr.vout, iout := t.pwr.iout } })

/-- Wake requests and the tray's messages on channel 6: accepted, refused under the lockout or a latched trip, or
answered 'already there'; CLEAR_LOCKOUT; ISLAND_OFF; and the start-up cap (R263, R267, R268, R270).
The model's own choices in it: notes/assumptions/59. -/
def Obligations.WakesAndTrayMessages : Prop :=
  ∀ s : State, s.isl.on = true →
    let acked := fun (code : Byte) (t : State) =>
      mbxCh t 6 = { mbxCh s 6 with ackCode := code, ackValid := true, doorbell := false } ∧
      ∀ c, c ≠ 6 → mbxCh t c = mbxCh s c
    let same := (mbxCh s 6).msgEpoch = (mbxCh s 6).senderEpoch
    (s.pwr.pstate ≠ .s3 → exec .perstDeassert s = .next { s with port := { s.port with perst := false } }) ∧
    (s.pwr.pstate = .s3 → s.pwr.seq = none → s.welt.test = none → wakeRefused s = true →
      exec .perstDeassert s = .next { s with port := { s.port with perst := false } }) ∧
    (s.pwr.pstate = .s3 → s.pwr.seq = none → s.welt.test = none → wakeRefused s = false →
      Does .perstDeassert s fun t => t.port = { s.port with perst := false } ∧
        t.pwr = { s.pwr with target := .s2, stuck := 0, en := s.pwr.en ||| 1, wakeCause := s.pwr.wakeCause ||| 1
                             seq := some { up := true, target := .s2, host := true } } ∧
        t.vlv.forcedRail = false ∧ t = { s with port := t.port, pwr := t.pwr, vlv := t.vlv }) ∧
    (∀ q, s.pwr.pstate = .s3 → s.pwr.seq = some q → q.up = false →
      exec .perstDeassert s = .next { s with port := { s.port with perst := false } }) ∧
    (∀ q, s.pwr.pstate = .s3 → s.pwr.seq = some q → q.up = true →
      exec .perstDeassert s = .next { s with
        port := { s.port with perst := false }
        pwr := { s.pwr with seq := some { q with host := true }, wakeCause := s.pwr.wakeCause ||| 1 } }) ∧
    (trayMsg s = some 1 → same → s.pwr.seq.isSome = true → Does .trayPowerUp s fun t => acked 2 t ∧
      t.pwr = { s.pwr with wakeCause := s.pwr.wakeCause ||| 8 } ∧ t = { s with port := t.port, mbx := t.mbx, pwr := t.pwr }) ∧
    (trayMsg s = some 1 → same → s.pwr.seq = none → s.pwr.pstate.code ≤ trayTarget s →
      Does .trayPowerUp s fun t => acked 2 t ∧ t = { s with port := t.port, mbx := t.mbx }) ∧
    (trayMsg s = some 1 → same → s.pwr.seq = none → trayTarget s < s.pwr.pstate.code → wakeRefused s = true →
      s.welt.test = none → Does .trayPowerUp s fun t => acked 1 t ∧ t = { s with port := t.port, mbx := t.mbx }) ∧
    (trayMsg s = some 1 → same → s.pwr.seq = none → s.pwr.pstate = .s3 → trayTarget s < 3 →
      wakeRefused s = false → s.welt.test = none → Does .trayPowerUp s fun t => acked 0 t ∧
        t.pwr.en = s.pwr.en ||| 1 ∧ t.pwr.wakeCause = s.pwr.wakeCause ||| 8 ∧
        t.pwr.seq = some { up := true, target := if trayTarget s = 2 then .s2 else .s0, thenS1 := trayTarget s == 1 } ∧
        t = { s with port := t.port, mbx := t.mbx, pwr := t.pwr, vlv := t.vlv }) ∧
    (trayMsg s = some 1 → same → s.pwr.seq = none → s.pwr.pstate = .s2 → trayTarget s < 2 →
      wakeRefused s = false → s.welt.test = none → Does .trayPowerUp s fun t => acked 0 t ∧
        t.pwr.en = s.pwr.en ||| 8 ∧ t.pwr.wakeCause = s.pwr.wakeCause ||| 8 ∧
        t.pwr.seq = some { up := true, target := .s0, thenS1 := trayTarget s == 1 } ∧
        t = { s with port := t.port, mbx := t.mbx, pwr := t.pwr, vlv := t.vlv, mem := { s.mem with stk := t.mem.stk } }) ∧
    (trayMsg s = some 1 → same → s.pwr.seq = none → s.pwr.pstate = .s1 → trayTarget s = 0 → wakeRefused s = false →
      Does .trayPowerUp s fun t => acked 0 t ∧
        t.pwr = { s.pwr with target := .s0, seq := some { target := .s0, atBoundary := true }
                             wakeCause := s.pwr.wakeCause ||| 8 } ∧
        t = { s with port := t.port, mbx := t.mbx, pwr := t.pwr }) ∧
    (trayMsg s ≠ some 1 → exec .trayPowerUp s = .next s) ∧
    (trayMsg s ≠ some 2 → exec .trayClearLockout s = .next s) ∧
    (trayMsg s ≠ some 3 → exec .trayIslandOff s = .next s) ∧
    (trayMsg s = some 2 → same → Does .trayClearLockout s fun t => acked 0 t ∧
      t = { s with port := t.port, mbx := t.mbx, pwr := { s.pwr with lockout := false, failures := [] } }) ∧
    (trayMsg s = some 3 → same → s.welt.thermTrip = false → Does .trayIslandOff s fun t => acked 0 t ∧
      t.pwr = { s.pwr with markerClean := true } ∧ t.log.islQueue = [] ∧ t.log.islOpen = none ∧
      t = { s with port := t.port, mbx := t.mbx, pwr := t.pwr, log := t.log }) ∧
    (trayMsg s = some 3 → same → s.welt.thermTrip = true → Does .trayIslandOff s fun t => acked 0 t ∧
      t = { s with port := t.port, mbx := t.mbx }) ∧
    (2000 ≤ packageFlow s → packageFlow s ≤ 4000 → exec .startupCapLift s =
      .next { s with pwr := { s.pwr with startup := false }, isl := { s.isl with flowValid := true } }) ∧
    (¬ (2000 ≤ packageFlow s ∧ packageFlow s ≤ 4000) → exec .startupCapLift s = .next s)

/-- Throttling steps, its escalation, and the limits that rise again. The step up is for the divided cluster, or the
hottest that reads at or above T_THROTTLE while none is divided, and is capped by the loop's largest d_slack until
escalation; the step down is for the divided cluster, 3 K below; escalation comes where d_req stands at that largest
d_slack though the ladder asks for more; the 800 W limit goes when every on-die reading is below 105 °C, the shed limit
rises by 16 W, and WARM sets in LOADED once the package draws the mean of the Last's first 10 ms; elsewhere nothing
changes (R99, R272, R275, R276, R280).
The model's own choices in it: notes/assumptions/60, 145 and 146. -/
def Obligations.ThrottleSteps : Prop :=
  ∀ (n : Nat) (x : Int) (s : State), s.isl.on = true →
    let hot := (s.pwr.tThrottle : Int) * 64 ≤ x
    (watched s = some (n, x) → mpRuns s = true → computeOn s = true → hot →
      Does .throttleRise s fun t =>
        t.pwr = { s.pwr with
          thrCluster := n, thrTemp := ofInt 8 (quant ((x : Rat) / 64)), event := s.pwr.event ||| 4
          dReq := max s.pwr.dReq (min (if s.pwr.escalated = true ∨ s.last.st ≠ .running then 8
            else dSlackMax { s with pwr := { s.pwr with thrCluster := n } }) (s.pwr.dReq + 1)) } ∧
        t = { s with pwr := t.pwr }) ∧
    (watched s = none ∨ (watched s = some (n, x) ∧ ¬ hot) ∨ mpRuns s = false ∨ computeOn s = false →
      exec .throttleRise s = .next s) ∧
    (s.pwr.dReq = 0 → ∀ y, watched s = some (n, y) → (s.pwr.tThrottle : Int) * 64 ≤ y ∧
      ∀ k : Nat, k < 64 → ∀ z, clusterTemp s k = some z → z ≤ y ∨ z < (s.pwr.tThrottle : Int) * 64) ∧
    (clusterTemp s s.pwr.thrCluster = some x → mpRuns s = true → x < ((s.pwr.tThrottle : Int) - 3) * 64 → 0 < s.pwr.dReq →
      exec .throttleFall s = .next { s with pwr := { s.pwr with
        thrTemp := ofInt 8 (quant ((x : Rat) / 64)), dReq := s.pwr.dReq - 1
        escalated := s.pwr.escalated && decide (1 < s.pwr.dReq) } }) ∧
    (s.pwr.dReq = 0 ∨ clusterTemp s s.pwr.thrCluster = none → exec .throttleFall s = .next s) ∧
    (watched s = some (n, x) → mpRuns s = true → s.last.st = .running → s.pwr.escalated = false → hot →
      dSlackMax s ≤ s.pwr.dReq → dSlackMin s < min 8 (s.pwr.dReq + 1) → Does .pwrThrottleEscalate s fun t =>
        t.pwr = { s.pwr with escalated := true, event := s.pwr.event ||| 8 } ∧
        Logged Ev.pwrThrottleEscalate [(1, n)] s t ∧ t = { s with pwr := t.pwr, log := t.log }) ∧
    (s.pwr.escalated = true ∨ s.last.st ≠ .running ∨ s.pwr.dReq < dSlackMax s →
      exec .pwrThrottleEscalate s = .next s) ∧
    ((∀ y ∈ dieReadings s, y < 105 * 64) →
      exec .thermalLimitRelease s = .next { s with pwr := { s.pwr with thermal800 := false } }) ∧
    ((∃ y ∈ dieReadings s, 105 * 64 ≤ y) → exec .thermalLimitRelease s = .next s) ∧
    (exec .shedLimitRise s = .next { s with pwr := { s.pwr with shedW := min 1600 (s.pwr.shedW + 16) } }) ∧
    (s.last.st = .loaded → mpRuns s = true → warmMeanMw s / 1000 ≤ s.pwr.pkgW →
      exec .warmReached s = .next { s with pwr := { s.pwr with warm := true } }) ∧
    (s.last.st ≠ .loaded ∨ s.pwr.pkgW < warmMeanMw s / 1000 → exec .warmReached s = .next s)

/-! ## The Last -/

/-- A frame boundary in a job of one package: F and I advance and wrap at the loop's end, a stretched frame is
counted, a pause, a resume, a start and a switch take hold, the first boundary of the new Last ends the switch frame,
in whose length the old period stands, and where no boundary can come nothing changes (R74 to R76, R93 to R98, R102).
A boundary leaves to the next frame no collective and no symbol of the frame before (R171, R173).
The model's own choices in it: notes/assumptions/57, 95, 148 and 159. -/
def Obligations.FrameBoundaries : Prop :=
  ∀ (ps w : Nat) (s : State), s.isl.on = true →
    let quiet := s.last.members ≤ 1 ∧ s.pwr.seq = none
    let does := Does (.frameBoundary ps w) s
    let advances := fun t : State =>
      t.last.f = (if s.last.f = imgLoopM1 s.last.active then 0 else s.last.f + 1) ∧
      t.last.pass = (if s.last.f = imgLoopM1 s.last.active then s.last.pass + 1 else s.last.pass)
    let same := fun t : State => t.last.active = s.last.active ∧ t.last.standby = s.last.standby ∧
      t.last.standbyValid = s.last.standbyValid ∧ t.pwr.pkgW = w ∧
      t = { s with last := t.last, pwr := t.pwr, isl := t.isl
                   lace := { s.lace with colls := t.lace.colls, early := t.lace.early, symbolsOut := t.lace.symbolsOut
                                         readyOut := t.lace.readyOut, joinOut := t.lace.joinOut, fwds := t.lace.fwds } }
    (inS0S1 s = false ∨ computeOn s = false ∨ begins s = .stay → exec (.frameBoundary ps w) s = .next s) ∧
    (inS0S1 s = true → computeOn s = true → quiet → s.last.inSwitch = false →
      (s.last.st = .running → s.last.ready = true → s.last.armed = none → s.last.pausePending = false →
        s.last.pausedBeforeFrame0 = false → does fun t => advances t ∧ t.last.st = .running ∧ t.last.ready = false ∧
          t.last.chains = [] ∧ t.lace.colls = [] ∧ t.lace.early = [] ∧ t.lace.symbolsOut = [] ∧
          t.last.stretchCnt = (if ps = 0 then s.last.stretchCnt else min 0xFFFF (s.last.stretchCnt + 1)) ∧
          t.last.event = (if ps = 0 then s.last.event else s.last.event ||| 1) ∧ t.pwr.pstate = s.pwr.pstate ∧
          t.isl.ahead = s.isl.ahead.drop 1 ∧ same t) ∧
      (s.last.st = .running → s.last.ready = false → exec (.frameBoundary ps w) s = .next s) ∧
      (s.last.st = .running → s.last.ready = true → s.last.armed = none → s.last.pausePending = true →
        does fun t => t.last.st = .paused ∧ t.last.f = s.last.f ∧ t.last.pass = s.last.pass ∧ t.last.pausePending = false ∧
          t.pwr.pstate = .s1 ∧ t.isl.ahead = s.isl.ahead ∧ same t) ∧
      (s.last.st = .paused → s.last.armed = none → s.last.resumePending = true → s.last.pausedBeforeFrame0 = false →
        does fun t => advances t ∧ t.last.st = .running ∧ t.last.resumePending = false ∧ t.pwr.pstate = .s0 ∧ same t) ∧
      (s.last.st = .paused → s.last.armed = none → s.last.resumePending = true → s.last.pausedBeforeFrame0 = true →
        does fun t => t.last.f = 0 ∧ t.last.pass = 0 ∧ t.last.st = .running ∧ t.pwr.pstate = .s0 ∧ same t) ∧
      (s.last.st = .paused → s.last.armed = none → s.last.resumePending = false →
        does fun t => t.last.st = .paused ∧ t.last.f = s.last.f ∧ t.last.pass = s.last.pass ∧ t.pwr.pstate = s.pwr.pstate ∧
          same t) ∧
      (s.last.st = .loaded → s.last.startPending = true → does fun t => t.last.st = .running ∧ t.last.f = 0 ∧
        t.last.pass = 0 ∧ t.last.startPending = false ∧ t.pwr.pstate = .s0 ∧ t.pwr.warm = false ∧ same t) ∧
      (s.last.st = .loaded → s.last.startPending = false → does fun t => t.last = s.last ∧ t.pwr.pstate = s.pwr.pstate ∧
        t.isl.ahead = s.isl.ahead.drop 1 ∧ same t) ∧
      (s.last.st = .running → s.last.ready = true → s.last.standbyValid = true →
        s.last.armed = some true ∨ (s.last.armed = some false ∧ s.last.f = imgLoopM1 s.last.active) →
        does fun t => t.last.inSwitch = true ∧ t.last.switched = false ∧ t.last.st = .running ∧ t.last.f = s.last.f ∧
          t.last.oldPeriod = imgPeriod s.last.active ∧ same t)) ∧
    (inS0S1 s = true → computeOn s = true → quiet → s.last.inSwitch = true → s.last.switched = true →
      s.last.st = .running →
      let ends := fun t : State => t.last.inSwitch = false ∧ t.last.armed = none ∧ t.last.event.getLsbD 3 = true ∧
        Logged Ev.lastSwitchDone [(4, (wd s.last.active 15).toNat)] { s with last := { s.last with f := 0, pass := 0 } } t ∧
        t.last.active = s.last.active ∧ t.last.f = 0 ∧ t.last.pass = 0 ∧
        t = { s with last := t.last, pwr := t.pwr, isl := t.isl, ctl := t.ctl, log := t.log, lace := t.lace }
      (s.last.pausePending = false → does fun t => ends t ∧ t.last.st = .running ∧ t.pwr.pstate = s.pwr.pstate) ∧
      (s.last.pausePending = true → does fun t => ends t ∧ t.last.st = .paused ∧ t.pwr.pstate = .s1 ∧
        t.last.pausedBeforeFrame0 = true)) ∧
    (s.last.inSwitch = true → lastBusy s = true → framePeriodCode s = s.last.oldPeriod) ∧
    (s.last.inSwitch = false → lastBusy s = true → framePeriodCode s = imgPeriod s.last.active) ∧
    (lastBusy s = false → framePeriod s = 100)

/-- The switch frame makes the standby image active and extends M5 with its signed hash. A package is ready when every
chain of the frame has run and no transaction or collective of it is outstanding; a member of a job then sends its ready
bit up the tree with STANDBY_VALID, and a package below which others lie sends it when all their bits have come, as the
AND of them. The leader of several packages announces the coming frame on its lanes of the tree once the job's ready
has arrived (R94, R96 to R98, R173, R174, R500).
The model's own choices in it: notes/assumptions/94 and 165. -/
def Obligations.SwitchReadyAndMarker : Prop :=
  ∀ s : State, s.isl.on = true →
    (s.last.inSwitch = true → s.last.switched = false → s.last.standbyValid = true →
      (∀ h : Fin 6, s.mem.stk[h].retireWaiting = false) → (∀ n : Fin 64, s.core.clusters[n].change = none) →
      Does .lastSwitchFrame s fun t =>
        t.last = { s.last with active := s.last.standby, standby := [], standbyValid := false, switched := true } ∧
        t.sec = (if s.sec.secRun then { s.sec with m := t.sec.m } else s.sec) ∧
        (s.sec.secRun = true → t.sec.m[5] = extended s.sec.m[5] (hashWords (signedWords s.last.standby)) ∧
          ∀ i : Fin 5, t.sec.m[i.val] = s.sec.m[i.val]) ∧
        t = { s with last := t.last, sec := t.sec }) ∧
    (s.last.inSwitch = false ∨ s.last.switched = true ∨ s.last.standbyValid = false →
      exec .lastSwitchFrame s = .next s) ∧
    (packageDone s = true → s.last.jobGiven = true → s.last.leaderId = ownId s →
      exec (.packageReady none) s = .next { s with last := { s.last with ready := true } }) ∧
    (∀ n : Nat, packageDone s = true → s.last.jobGiven = true → s.last.leaderId ≠ ownId s →
      fwdOf s.lace (jobByte s) = none → symbolLane s (upLane s s.last.leaderId) = some n →
      exec (.packageReady none) s = .next { s with
        last := { s.last with ready := true }
        lace := { s.lace with readyOut := s.lace.readyOut.filter (fun x => x.1 != jobByte s) ++
                                            [(jobByte s, s.last.standbyValid, n)]
                              fwds := s.lace.fwds.map fun f =>
                                if f.job = jobByte s then { f with ready := [], standby := [] } else f } }) ∧
    (packageDone s = false → exec (.packageReady none) s = .next s) ∧
    (s.last.st = .running → s.last.inSwitch = false →
      (packageDone s = true ↔ computeOn s = true ∧ inS0S1 s = true ∧ chainsDone s = true ∧ s.lace.txns = [] ∧
        s.lace.waiting = [] ∧ s.lace.colls = [])) ∧
    (∀ (job : Nat) (lane : Fin 128) (standby : Bool) (f : JobFwd), inS0S1 s = true → computeOn s = true →
      laneActive s lane.val = true → fwdOf s.lace (job % 256) = some f → lane.val ∈ f.lanes →
      (isLeader s = true → jobByte s = job % 256 → Does (.packageReady (some (job, lane, standby))) s fun t =>
        fwdOf t.lace (job % 256) = some { f with
          ready := addSorted f.ready lane.val
          standby := if standby then addSorted f.standby lane.val else f.standby.filter (· != lane.val) } ∧
        t = { s with lace := { s.lace with fwds := t.lace.fwds } }) ∧
      (s.last.jobGiven = false ∨ jobByte s ≠ job % 256 → f.leader ≠ ownId s →
        (∀ m ∈ f.lanes, m = lane.val ∨ m ∈ f.ready) → ∀ n, symbolLane s (upLane s f.leader) = some n →
        Does (.packageReady (some (job, lane, standby))) s fun t =>
          t.lace.readyOut = s.lace.readyOut.filter (fun x => x.1 != job % 256) ++
            [(job % 256, standby && decide (∀ m ∈ f.lanes, m = lane.val ∨ m ∈ f.standby), n)] ∧
          fwdOf t.lace (job % 256) = some { f with ready := [], standby := [] } ∧
          t = { s with lace := { s.lace with fwds := t.lace.fwds, readyOut := t.lace.readyOut } })) ∧
    (∀ waited : Nat, isLeader s = true → 1 < s.last.members → inS0S1 s = true → s.last.st = .running →
      s.last.inSwitch = false → s.last.ready = true → jobReady s = true → s.last.armed = none →
      s.last.pausePending = false → s.last.pausedBeforeFrame0 = false →
      let k : Marker := {
        f := if s.last.f = imgLoopM1 s.last.active then 0 else s.last.f + 1
        pass := (if s.last.f = imgLoopM1 s.last.active then s.last.pass + 1 else s.last.pass).toNat % 65536
        period := imgPeriod s.last.active, job := s.last.jobId % 256
        switchFlag := false, pauseFlag := false, faultFlag := false, acc := waited % 0x1000000 }
      Does (.markerEmit waited) s fun t => t.last = { s.last with markerOut := some k } ∧
        (∀ n ∈ treeLanes s (s.last.jobId % 256), laneActive s n = true → (k, n) ∈ t.lace.symbolsOut) ∧
        t = { s with last := t.last, lace := { s.lace with symbolsOut := t.lace.symbolsOut } }) ∧
    (∀ waited : Nat, isLeader s = false ∨ s.last.members ≤ 1 ∨ nextBegin s = .stay →
      exec (.markerEmit waited) s = .next s)

/-- Markers, faults and shed notices. A marker that differs from what its member expects in F, PERIOD or JOB_ID, or
has FAULT set, faults the package: FAULTED, FAULT set, nothing armed or pending, logged critical; one that fits sets the
coming boundary at t_lead less ACC and its lane's delay. A package in S0 or S1 forwards symbols of a job down its lanes
of the tree, with the lane's delay and its residence added to ACC. The leader faults the job when its ready has not
arrived in time, a member without a marker faults by itself. A shed notice lowers the thermal limit by 80 W, to no
less than 400 W, counts and is logged, at the leader once in a frame and at each member (R96, R99, R173, R174).
The model's own choices in it: notes/assumptions/148 and 166. -/
def Obligations.FaultsAndShedding : Prop :=
  ∀ (k : Marker) (lane : Fin 128) (residence : Nat) (s : State), s.isl.on = true →
    let faulted := fun t : State =>
      t.last.st = .faulted ∧ t.last.event.getLsbD 2 = true ∧ t.last.armed = none ∧ t.last.inSwitch = false ∧
      t.last.startPending = false ∧ t.last.pausePending = false ∧ t.last.resumePending = false ∧ t.last.jobSet = false ∧
      t.last.active = s.last.active ∧ t.last.standby = s.last.standby ∧
      (deviceWakes s = false → t.pwr = s.pwr) ∧ (deviceWakes s = true → t.pwr.wakeCause.getLsbD 5 = true) ∧
      t = { s with last := t.last, pwr := t.pwr, log := t.log
                   lace := { s.lace with colls := [], early := [], symbolsOut := t.lace.symbolsOut } }
    let passedOn := fun t : State => t = { s with lace := { s.lace with symbolsOut := t.lace.symbolsOut } }
    let shedBy := fun t : State =>
      t.pwr = { s.pwr with shedW := max 400 (s.pwr.shedW - 80) } ∧
      t.last = { s.last with event := s.last.event ||| 2, shedCnt := min 0xFFFF (s.last.shedCnt + 1), shedSent := true } ∧
      Logged Ev.lastShed [(4, (wd s.last.active 15).toNat)] s t ∧
      t = { s with pwr := t.pwr, last := t.last, log := t.log, lace := { s.lace with symbolsOut := t.lace.symbolsOut } }
    let served := inS0S1 s = true ∧ computeOn s = true ∧ laneActive s lane.val = true
    let member := served ∧ 1 < s.last.members ∧ isLeader s = false ∧ (s.last.st = .running ∨ s.last.st = .paused) ∧
      (k.job = jobByte s ∨ fwdOf s.lace k.job = none)
    let receives := Does (.frameMarkerReceive k lane residence) s
    (markerFits s k = true ↔
      k.period = imgPeriod s.last.active ∧ k.job = s.last.jobId % 256 ∧ k.f = (markerF s.last).1) ∧
    (member → markerFits s k = false → receives fun t => faulted t ∧ t.last.event.getLsbD 5 = true) ∧
    (member → markerFits s k = true → k.faultFlag = true → receives faulted) ∧
    (member → markerFits s k = true → k.faultFlag = false → k.switchFlag = false → k.pauseFlag = false →
      s.last.st = .running → receives fun t =>
        t.last = { s.last with
          markerIn := some k
          bndDelay := (if imgScope s.last.active then 1500000 else 500000) - (k.acc + 500 * (laneOf s lane.val).delay) } ∧
        t = { s with last := t.last, lace := { s.lace with symbolsOut := t.lace.symbolsOut } }) ∧
    (s.last.members ≤ 1 ∨ isLeader s = true → receives passedOn) ∧
    (¬ served → exec (.frameMarkerReceive k lane residence) s = .next s ∧
      exec (.shedNoticeReceive k lane residence) s = .next s) ∧
    (∀ n : Nat, served → s.last.members ≤ 1 ∨ isLeader s = true → laneRelays s lane.val = true → n ≠ lane.val →
      n ∈ treeLanes s k.job → laneRelays s n = true → receives fun t =>
        (({ k with acc := (k.acc + (500 * (laneOf s lane.val).delay +
            if 3 ≤ (laneOf s lane.val).ver then residence else 20000)) % 0x1000000 } : Marker), n) ∈ t.lace.symbolsOut) ∧
    (lastBusy s = true → 1 < s.last.members → isLeader s = false → s.last.markerIn = none →
      Does .memberMarkerTimeout s faulted) ∧
    (lastBusy s = false ∨ s.last.members ≤ 1 ∨ isLeader s = true ∨ s.last.markerIn.isSome = true →
      exec .memberMarkerTimeout s = .next s) ∧
    (isLeader s = true → lastBusy s = true → nextBegin s = .stay → Does .frameFaultTimeout s fun t => faulted t ∧
      (s.last.members ≤ 1 → t.last.markerOut = none) ∧
      (1 < s.last.members → ∃ m, t.last.markerOut = some m ∧ m.faultFlag = true ∧ m.job = s.last.jobId % 256 ∧
        ∀ n ∈ treeLanes s (s.last.jobId % 256), laneActive s n = true → (m, n) ∈ t.lace.symbolsOut)) ∧
    (isLeader s = false ∨ lastBusy s = false ∨ nextBegin s ≠ .stay → exec .frameFaultTimeout s = .next s) ∧
    (isLeader s = true → s.last.st = .running → s.last.inSwitch = false → s.last.ready = false → s.last.shedSent = false →
      Does .shedNotice s shedBy) ∧
    (s.last.shedSent = true ∨ isLeader s = false → exec .shedNotice s = .next s) ∧
    (served → lastBusy s = true → isLeader s = false → k.job = s.last.jobId % 256 →
      Does (.shedNoticeReceive k lane residence) s shedBy) ∧
    (k.job ≠ s.last.jobId % 256 → Does (.shedNoticeReceive k lane residence) s passedOn)

/-- LAST_LOAD opens the standby slot; LAST_COMMIT accepts an image that passes every check and rejects one that
fails, with the reason, the word, LOAD_REJECT and the record; an unsigned image has a record of its own; into an empty
package it becomes the active image, else the standby; an image has to start with the magic, be of version 3 or 4, and
have as many words as its header says, and in PRODUCTION be signed (R78, R89, R90, R501).
The model's own choices in it: notes/assumptions/11, 92, 93, 148 and 158. -/
def Obligations.LastLoadAndCommit : Prop :=
  ∀ (r : Req) (s : State),
    let n := max 16 (min 67108864 (wd r.words 0).toNat)
    let img := receivedWords s
    let build := (wd img 15).toNat
    let noted := if sigOff img = 0 then raise Ev.lastUnsigned [(4, build)] s else s
    let accepted := fun t : State => t.log = noted.log
    (Ready 0x300 r s → inS0S1 s = false → Answered 0x300 (.lastLoad r) r 7 [] s) ∧
    (Ready 0x300 r s → inS0S1 s = true → s.last.armed.isSome = true ∨ windowBusy s r.port 1 0 = true →
      Answered 0x300 (.lastLoad r) r 2 [BitVec.ofNat 32 n] s) ∧
    (Ready 0x300 r s → inS0S1 s = true → s.last.armed = none → windowBusy s r.port 1 0 = false →
      Ends 0x300 (.lastLoad r) r 0 [BitVec.ofNat 32 n] s fun t =>
        (t.win r.port).active = true ∧ (t.win r.port).outbound = false ∧ (t.win r.port).target = 1 ∧
        (t.win r.port).left = n ∧ (t.win r.port).inWords = [] ∧
        t.last = { s.last with standby := [], standbyValid := false, standbyIncomplete := false } ∧
        t = { s with port := t.port, last := t.last }) ∧
    (Ready 0x301 r s → inS0S1 s = true → ∀ reason word : Nat,
      checkFirst s img = some (reason, word) ∨ (checkFirst s img = none ∧ checkLife s img = some (reason, word)) →
      Ends 0x301 (.lastCommit r) r (if reason = 2 then 5 else if reason = 5 then 6 else 9) [mkW [(8, word % 2 ^ 24), (0, reason)]] s
        fun t => t.last = { s.last with standbyValid := false, event := s.last.event ||| 0x10 } ∧
          Logged Ev.lastLoadReject [(1, reason), (4, word), (4, build)] s t ∧
          t = { s with port := t.port, last := t.last, log := t.log }) ∧
    (Ready 0x301 r s → inS0S1 s = true → ∀ reason word : Nat, checkFirst s img = none → checkLife s img = none →
      checkRest s img = some (reason, word) →
      Ends 0x301 (.lastCommit r) r (if reason = 2 then 5 else if reason = 5 then 6 else 9) [mkW [(8, word % 2 ^ 24), (0, reason)]] s
        fun t => t.last = { s.last with standbyValid := false, event := s.last.event ||| 0x10 } ∧
          Logged Ev.lastLoadReject [(1, reason), (4, word), (4, build)] noted t ∧
          t = { s with port := t.port, last := t.last, log := t.log }) ∧
    (Ready 0x301 r s → inS0S1 s = false → Answered 0x301 (.lastCommit r) r 7 [] s) ∧
    (Ready 0x301 r s → inS0S1 s = true → checkFirst s img = none → checkLife s img = none → checkRest s img = none →
      s.last.st ≠ .empty → Ends 0x301 (.lastCommit r) r 0 [0] s fun t => accepted t ∧
        t.last = { s.last with standby := img, standbyValid := true } ∧
        t = { s with port := t.port, last := t.last, log := t.log }) ∧
    (Ready 0x301 r s → inS0S1 s = true → checkFirst s img = none → checkLife s img = none → checkRest s img = none →
      s.last.st = .empty → Ends 0x301 (.lastCommit r) r 0 [0] s fun t => accepted t ∧
        t.last.st = .loaded ∧ t.last.active = img ∧ t.last.standby = [] ∧ t.last.standbyValid = false ∧ t.last.f = 0 ∧
        t.last.pass = 0 ∧ t = { s with port := t.port, last := t.last, log := t.log, sec := { s.sec with m := t.sec.m } }) ∧
    (wd img 0 ≠ 0x4C415354#32 → checkFirst s img = some (1, 0)) ∧
    (wd img 0 = 0x4C415354#32 → fld (wd img 1) 8 8 = 16 → fld (wd img 1) 0 8 ≠ 3 → fld (wd img 1) 0 8 ≠ 4 →
      checkFirst s img = some (2, 1)) ∧
    (wd img 0 = 0x4C415354#32 → fld (wd img 1) 8 8 = 16 → fld (wd img 1) 0 8 = 3 ∨ fld (wd img 1) 0 8 = 4 →
      (wd img 2).toNat ≠ img.length → checkFirst s img = some (3, 2)) ∧
    (s.sec.life = .production → sigOff img = 0 → checkLife s img = some (5, 14))

/-- The job opcodes: DOMAIN_OFF outside S0 and S1, DENIED at a package that does not lead, BUSY in the wrong
state, and else what they set for the next boundary, the JOIN that a member sends, and the slot that is emptied
(R91 to R95, R173, R279, R280).
The model's own choices in it: notes/assumptions/11, 61 and 95. -/
def Obligations.LastJobOpcodes : Prop :=
  ∀ (r : Req) (s : State),
    let w1 := wd r.words 0
    let w2 := wd r.words 1
    let ft := max 1 (min 255 (fld w2 16 8))
    let mem := max 1 (min 2048 (fld w2 0 12))
    let jobWs := [w1 &&& 0xFFFF87FF#32, mkW [(16, ft), (0, mem)]]
    let b := [BitVec.ofNat 32 (w1.getLsbD 0).toNat]
    (inS0S1 s = false →
      (Ready 0x302 r s → Answered 0x302 (.lastJobSet r) r 7 [] s) ∧ (Ready 0x303 r s → Answered 0x303 (.lastStart r) r 7 [] s) ∧
      (Ready 0x304 r s → Answered 0x304 (.lastSwitch r) r 7 [] s) ∧ (Ready 0x305 r s → Answered 0x305 (.lastPause r) r 7 [] s) ∧
      (Ready 0x306 r s → Answered 0x306 (.lastResume r) r 7 [] s) ∧ (Ready 0x307 r s → Answered 0x307 (.lastUnload r) r 7 [] s)) ∧
    (inS0S1 s = true → isLeader s = false →
      (Ready 0x303 r s → Answered 0x303 (.lastStart r) r 6 [] s) ∧ (Ready 0x304 r s → Answered 0x304 (.lastSwitch r) r 6 b s) ∧
      (Ready 0x305 r s → Answered 0x305 (.lastPause r) r 6 [] s) ∧ (Ready 0x306 r s → Answered 0x306 (.lastResume r) r 6 [] s)) ∧
    (inS0S1 s = true → Ready 0x302 r s → lastBusy s = true → Answered 0x302 (.lastJobSet r) r 2 jobWs s) ∧
    (inS0S1 s = true → Ready 0x302 r s → lastBusy s = false → Ends 0x302 (.lastJobSet r) r 0 jobWs s fun t =>
      t = { s with port := t.port, last := { s.last with
        jobId := fld w1 16 16, scope := w1.getLsbD 15, leaderId := fld w1 0 11, faultTimeout := ft, members := mem
        jobGiven := true, jobSet := true }, lace := { s.lace with joinOut := t.lace.joinOut } } ∧
      (isLeader t = true → t.lace = s.lace) ∧
      (isLeader t = false → ∀ n, symbolLane s (upLane s (fld w1 0 11)) = some n →
        t.lace.joinOut = s.lace.joinOut ++ [(fld w1 16 16 % 256, fld w1 0 11, ownId s, n)])) ∧
    (inS0S1 s = true → isLeader s = true → Ready 0x303 r s →
      s.last.st = .loaded ∨ (s.last.st = .faulted ∧ s.last.jobSet = true) → Ends 0x303 (.lastStart r) r 0 [] s fun t =>
        t.last = { s.last with startPending := true } ∧
        t.pwr = (if s.pwr.warm then s.pwr else { s.pwr with coldStart := some s.log.elapsed }) ∧
        (s.pwr.warm = true → t.log = s.log) ∧ (s.pwr.warm = false → Logged Ev.pwrColdStart [] s t) ∧
        t = { s with port := t.port, last := t.last, pwr := t.pwr, log := t.log, ctl := { s.ctl with slots := t.ctl.slots } }) ∧
    (inS0S1 s = true → isLeader s = true → Ready 0x303 r s →
      s.last.st = .running ∨ s.last.st = .paused ∨ s.last.st = .empty ∨ (s.last.st = .faulted ∧ s.last.jobSet = false) →
      Answered 0x303 (.lastStart r) r 2 [] s) ∧
    (inS0S1 s = true → isLeader s = true → Ready 0x304 r s → s.last.standbyValid = true → s.last.armed = none →
      Ends 0x304 (.lastSwitch r) r 0 b s fun t =>
        t = { s with port := t.port, last := { s.last with armed := some (w1.getLsbD 0) } }) ∧
    (inS0S1 s = true → isLeader s = true → Ready 0x304 r s → s.last.standbyValid = false ∨ s.last.armed.isSome = true →
      Answered 0x304 (.lastSwitch r) r 2 b s) ∧
    (inS0S1 s = true → isLeader s = true → Ready 0x305 r s → s.last.st = .running → Ends 0x305 (.lastPause r) r 0 [] s fun t =>
      t = { s with port := t.port, last := { s.last with pausePending := true } }) ∧
    (inS0S1 s = true → isLeader s = true → Ready 0x305 r s → s.last.st ≠ .running → Answered 0x305 (.lastPause r) r 2 [] s) ∧
    (inS0S1 s = true → isLeader s = true → Ready 0x306 r s → s.last.st = .paused → Ends 0x306 (.lastResume r) r 0 [] s fun t =>
      t = { s with port := t.port, last := { s.last with resumePending := true } }) ∧
    (inS0S1 s = true → isLeader s = true → Ready 0x306 r s → s.last.st ≠ .paused → Answered 0x306 (.lastResume r) r 2 [] s) ∧
    (inS0S1 s = true → Ready 0x307 r s → s.last.armed = none → s.last.st ≠ .running → w1.getLsbD 0 = true →
      Ends 0x307 (.lastUnload r) r 0 b s fun t =>
        t = { s with port := t.port, last := { s.last with standby := [], standbyValid := false } }) ∧
    (inS0S1 s = true → Ready 0x307 r s → s.last.armed.isSome = true ∨ s.last.st = .running →
      Answered 0x307 (.lastUnload r) r 2 b s) ∧
    (inS0S1 s = true → Ready 0x307 r s → s.last.armed = none → w1.getLsbD 0 = false → s.last.st = .empty →
      Answered 0x307 (.lastUnload r) r 0 b s) ∧
    (inS0S1 s = true → Ready 0x307 r s → s.last.armed = none → w1.getLsbD 0 = false →
      s.last.st = .loaded ∨ s.last.st = .paused ∨ s.last.st = .faulted → s.last.standbyValid = true →
      (∀ h : Fin 6, s.mem.stk[h].retireWaiting = false) → (∀ n : Fin 64, s.core.clusters[n].deferred = []) →
      Ends 0x307 (.lastUnload r) r 0 b s fun t => t.last.st = .loaded ∧ t.last.active = s.last.standby ∧
        t.last.standby = [] ∧ t.last.standbyValid = false ∧ t.isl.ahead = [] ∧ t.pwr = { s.pwr with warm := t.pwr.warm } ∧
        t = { s with port := t.port, last := t.last, isl := t.isl, pwr := t.pwr, sec := { s.sec with m := t.sec.m } }) ∧
    (inS0S1 s = true → Ready 0x307 r s → s.last.armed = none → w1.getLsbD 0 = false →
      s.last.st = .loaded ∨ s.last.st = .paused ∨ s.last.st = .faulted → s.last.standbyValid = false → (∀ h : Fin 6, s.mem.stk[h].retireWaiting = false) →
      (∀ n : Fin 64, s.core.clusters[n].deferred = []) → Ends 0x307 (.lastUnload r) r 0 b s fun t =>
        t.last.st = .empty ∧ t.last.active = [] ∧ t.isl.ahead = [] ∧ t.pwr = { s.pwr with warm := t.pwr.warm } ∧
        t = { s with port := t.port, last := t.last, isl := t.isl, pwr := t.pwr })

/-! ## Lace -/

/-- Light and signal: an input that loses light takes its lanes to waiting, a restored one has them train, in full
where the training that waits was to be in full; a lane that loses its signal goes down; a flit is replayed at
most 8 times within 2 µs of its first transmission, after which its lane goes down; a retirement of the peer
retires the lane; a reset of the peer completes the transactions to it as timeouts and trains its lanes (R145,
R154, R158, R159, R163, R481).
The model's own choices in it: notes/assumptions/39, 82, 86 and 150. -/
def Obligations.LaceLaneEvents : Prop :=
  ∀ (lane : Fin 128) (s : State), s.isl.on = true →
    let x := laneOf s lane.val
    let lost := fun t : State =>
      laneOf t lane.val = { x with st := .down, fail := 6, ver := 0, fast := hasRecord x, wantFull := false, replay := none } ∧
      (∀ n, n ≠ lane.val → laneOf t n = laneOf s n) ∧ t.lace.event = s.lace.event ||| 0x20 ∧
      Logged Ev.laceLaneDown [(1, lane.val)] s t ∧ t = { s with lace := t.lace, log := t.log, free := t.free }
    (x.st = .active → Does (.lossOfSignal lane) s lost ∧ Does (.replayExhaust lane) s lost) ∧
    (x.st ≠ .active → exec (.lossOfSignal lane) s = .next s ∧ exec (.replayExhaust lane) s = .next s ∧
      (∀ seq age, exec (.flitReplay lane seq age) s = .next s) ∧ exec (.retireSymbolReceive lane) s = .next s) ∧
    (∀ (seq : BitVec 12) (age n : Nat), x.st = .active → n = replaysOf x seq.toNat →
      (8 ≤ n ∨ 2000 < age → Does (.flitReplay lane seq age) s lost) ∧
      (n < 8 → age ≤ 2000 → Does (.flitReplay lane seq age) s fun t =>
        laneOf t lane.val = { x with replay := some (seq.toNat, n + 1) } ∧ (∀ k, k ≠ lane.val → laneOf t k = laneOf s k) ∧
        t.lace.replayCnt = min 0xFFFFFFFF (s.lace.replayCnt + 1) ∧
        t = { s with lace := { s.lace with lanes := t.lace.lanes, replayCnt := t.lace.replayCnt } })) ∧
    (x.st = .active → Does (.retireSymbolReceive lane) s fun t =>
      laneOf t lane.val = { x with st := .retired, ver := 0, peerRetired := true } ∧
      (∀ n, n ≠ lane.val → laneOf t n = laneOf s n) ∧ t = { s with lace := t.lace, free := t.free }) ∧
    (∀ input : Fin 2,
      let lit := if input.val = 0 then s.lace.light0 else s.lace.light1
      let fed := laneLs0 lane.val = decide (input.val = 0)
      let lights := fun (b : Bool) (t : State) => t.lace.light0 = (if input.val = 0 then b else s.lace.light0) ∧
        t.lace.light1 = (if input.val = 0 then s.lace.light1 else b)
      (lit = true → opticalOn s = true → Does (.lightLoss input) s fun t =>
        lights false t ∧ t.lace.event = s.lace.event ||| BitVec.ofNat 32 (input.val + 1) ∧
        (fed → x.st = .active ∨ x.st = .training ∨ x.st = .down →
          laneOf t lane.val = { x with st := .waitLight, ver := 0 }) ∧
        (¬ fed → laneOf t lane.val = x) ∧ Logged Ev.laceLightLoss [(1, input.val)] s t ∧
        t = { s with lace := t.lace, log := t.log, free := t.free }) ∧
      (lit = false ∨ opticalOn s = false → Does (.lightLoss input) s fun t =>
        lights false t ∧ t = { s with lace := { s.lace with light0 := t.lace.light0, light1 := t.lace.light1 } }) ∧
      (Does (.lightRestored input) s fun t => lights true t ∧
        (¬ fed ∨ x.st ≠ .waitLight → laneOf t lane.val = x) ∧
        (fed → x.st = .waitLight → opticalOn s = true → s.lace.idValid = true → s.lace.retired = 0 →
          laneDark s lane.val = false → x.peerRetired = false →
          laneOf t lane.val = { x with st := .training, ver := 0, fail := 0, replay := none
                                       fast := hasRecord x && !x.wantFull }) ∧
        t = { s with lace := { s.lace with light0 := t.lace.light0, light1 := t.lace.light1, lanes := t.lace.lanes } })) ∧
    (∀ p : Nat,
      let toward := lanePeer s lane.val = some (decide (2048 ≤ p), p % 2048)
      let train := fun t : State => (¬ toward → laneOf t lane.val = x) ∧
        (toward → s.lace.idValid = true → s.lace.retired.getLsbD lane.val = false → x.peerRetired = false →
          laneOf t lane.val = { x with st := if laneLight s lane.val then .training else .waitLight, ver := 0, fail := 0
                                       fast := hasRecord x, wantFull := false, replay := none })
      (opticalOn s = false → exec (.peerResetReceive p) s = .next s) ∧
      (opticalOn s = true → (∀ y ∈ s.lace.txns, ¬ (y.target = p % 2048 ∧ y.sled = decide (2048 ≤ p))) →
        Does (.peerResetReceive p) s fun t => train t ∧ t.lace.event = s.lace.event ||| 0x100 ∧
          Logged Ev.lacePeerReset [(2, p % 4096)] s t ∧ t.lace.txns = s.lace.txns ∧
          t = { s with lace := { s.lace with lanes := t.lace.lanes, event := t.lace.event }, log := t.log }) ∧
      (∀ y, opticalOn s = true → s.lace.txns = [y] → s.lace.waiting = [] → y.target = p % 2048 →
        y.sled = decide (2048 ≤ p) → y.write = true → y.holder = .descriptor → Does (.peerResetReceive p) s fun t =>
          train t ∧ t.lace.txns = [] ∧ genOf t.lace y.tag = (genOf s.lace y.tag + 1) % 8 ∧
          t.lace.event = s.lace.event ||| 0x180 ∧
          Logged Ev.lacePeerReset [(2, p % 4096)] (raise Ev.laceTimeout [(2, targetCode y), (1, y.lane)] s) t ∧
          t = { s with lace := t.lace, log := t.log }))

/-- A lane's training ends: active at the highest version that both sides accept with the record stored, or
failed with its code, a miswire and a version failure recorded, what the capability exchange gave standing
either way; a fast training that fails goes on in full (R153 to R156). -/
def Obligations.LaneTraining : Prop :=
  ∀ (lane : Fin 128) (sled : Bool) (id high low access delay sp : Nat) (s : State), s.isl.on = true →
    let x := laneOf s lane.val
    let res := TrainResult.peer sled id high low access delay sp
    let known := { x with peerSled := sled, peer := id, accessNs := if sled then access else 0 }
    let trains := x.st = .training ∨ x.st = .down
    let one := fun (y : Lane) (t : State) => laneOf t lane.val = y ∧ ∀ n, n ≠ lane.val → laneOf t n = laneOf s n
    let failed := fun (y : Lane) (code : Nat) (t : State) => one { y with st := .failed, fail := code, ver := 0 } t ∧
      t = { s with lace := { s.lace with lanes := t.lace.lanes, event := t.lace.event }, log := t.log }
    let step := fun (code : Nat) (t : State) => failed x code t ∧ t.lace.event = s.lace.event ||| 4 ∧
      Logged Ev.laceTrainFail [(1, lane.val), (1, code)] s t
    (¬ trains → ∀ res, exec (.laneTrainingDone lane res) s = .next s) ∧
    (trains → Does (.laneTrainingDone lane .light) s (step 1)) ∧
    (trains → x.fast = true →
      (Does (.laneTrainingDone lane .ring) s fun t => one { x with fast := false, st := .training } t ∧
        t = { s with lace := { s.lace with lanes := t.lace.lanes } }) ∧
      (Does (.laneTrainingDone lane .symbol) s fun t => one { x with fast := false, st := .training } t ∧
        t = { s with lace := { s.lace with lanes := t.lace.lanes } })) ∧
    (trains → x.fast = false → Does (.laneTrainingDone lane .ring) s (step 2) ∧
      Does (.laneTrainingDone lane .symbol) s (step 3)) ∧
    (trains → lanePeer s lane.val ≠ some (sled, id) → Does (.laneTrainingDone lane res) s fun t =>
      failed known 5 t ∧ t.lace.event = s.lace.event ||| 0xC ∧
      Logged Ev.laceTrainFail [(1, lane.val), (1, 5)] (raise Ev.laceMiswire [(1, lane.val), (2, id)] s) t) ∧
    (trains → lanePeer s lane.val = some (sled, id) → versionFor s high low = none →
      Does (.laneTrainingDone lane res) s fun t => failed known 4 t ∧ t.lace.event = s.lace.event ||| 0x14 ∧
        Logged Ev.laceTrainFail [(1, lane.val), (1, 4)] (raise Ev.laceVerFail [(1, lane.val)] s) t) ∧
    (∀ v, trains → lanePeer s lane.val = some (sled, id) → versionFor s high low = some v →
      v ≤ s.lace.maxVer ∧ v ≤ high ∧ low ≤ v ∧ (∀ u, 1 ≤ u → u ≤ 3 → u ≤ s.lace.maxVer → u ≤ high → low ≤ u → u ≤ v) ∧
      Does (.laneTrainingDone lane res) s fun t =>
        one { known with st := .active, ver := v, fail := 0, delay := delay, replay := none
                         record := some (sp, delay, v), fast := false } t ∧
        t = { s with lace := { s.lace with lanes := t.lace.lanes } })

/-- Transactions end: a reply of the tag's generation frees the tag and stores a read's data, one of another
generation is dropped late, a remote error is recorded, a timeout moves the generation on, poisons a read's
destination and is recorded; requests are served in the order of their descriptor or answered with a remote
error; a request that comes early waits; a second copy changes nothing; a relayed packet goes on by the next
hop's lane without touching memory (R125, R129, R150, R159, R161, R162, R164, R166).
The model's own choices in it: notes/assumptions/75, 85, 121 and 149. -/
def Obligations.LaceTransactions : Prop :=
  ∀ (tag : Fin 8192) (gen : Nat) (x : Txn) (s : State), s.isl.on = true → opticalOn s = true → s.lace.waiting = [] →
    s.lace.txns = [x] → x.tag = tag.val → s.lace.held = [] → MemoriesCanonical s →
    let ends := { s.lace with txns := [] }
    let sent := fun (q : LaceReq) (b : ReplyBody) (t : State) => t.lace = { s.lace with
        taken := sput s.lace.taken (8192 * q.source + q.tag) q.gen, replyOut := [(q.source, q.tag, q.gen, b)]
        nextNo := t.lace.nextNo } ∧
      (q.order = none → t.lace.nextNo = s.lace.nextNo) ∧
      (∀ d n, q.order = some (d, n) → t.lace.nextNo = sput s.lace.nextNo (65536 * q.source + d) (n + 1))
    let takes := fun q : LaceReq => inS0S1 s = true ∧ computeOn s = true ∧ secondCopy s.lace q = false
    (∀ b, gen ≠ genOf s.lace tag.val → exec (.laceReply tag gen b) s = .next { s with lace := { s.lace with
      lateDrop := min 0xFFFFFFFF (s.lace.lateDrop + 1), event := s.lace.event ||| 0x40 } }) ∧
    (gen = genOf s.lace tag.val → x.write = true →
      exec (.laceReply tag gen (.ok [] [])) s = .next { s with lace := ends }) ∧
    (∀ (d : List Byte) (h a : Nat), gen = genOf s.lace tag.val → x.write = false → x.place = .hbm h a → d.length = x.len →
      Does (.laceReply tag gen (.ok d [])) s fun t =>
        (∀ i, i < x.len → t.mem.hbm.get (hbmBase h + a + i) = d.getD i 0) ∧
        (∀ y, y < hbmBase h + a ∨ hbmBase h + a + x.len ≤ y → t.mem.hbm.get y = s.mem.hbm.get y) ∧
        t = { s with lace := ends, mem := { s.mem with hbm := t.mem.hbm, hbmPoison := t.mem.hbmPoison } }) ∧
    (gen = genOf s.lace tag.val → x.write = true → x.holder = .descriptor →
      exec (.laceReply tag gen .remoteError) s = .next { s with lace := { ends with event := s.lace.event ||| 0x200 } }) ∧
    (gen = genOf s.lace tag.val → x.write = true → x.holder = .spill → Does (.laceReply tag gen .remoteError) s fun t =>
      Logged Ev.spillRemoteErr [] s t ∧
      t = { s with lace := ends, mem := { s.mem with event := s.mem.event ||| 0x40 }, log := t.log }) ∧
    (x.holder = .descriptor → Does (.laceTimeout (.tag tag)) s fun t =>
      t.lace.txns = [] ∧ genOf t.lace tag.val = (genOf s.lace tag.val + 1) % 8 ∧ t.lace.event = s.lace.event ||| 0x80 ∧
      Logged Ev.laceTimeout [(2, targetCode x), (1, x.lane)] s t ∧
      (x.write = true → t = { s with lace := t.lace, log := t.log }) ∧
      (∀ h a, x.write = false → x.place = .hbm h a →
        (∀ y, t.mem.hbm.get y = s.mem.hbm.get y) ∧
        (∀ u, u ∈ t.mem.hbmPoison ↔ u ∈ s.mem.hbmPoison ∨
          ((hbmBase h + a) / 32 ≤ u ∧ u < (hbmBase h + a) / 32 + (x.len + 31) / 32)) ∧
        t = { s with lace := t.lace, log := t.log, mem := { s.mem with hbm := t.mem.hbm, hbmPoison := t.mem.hbmPoison } })) ∧
    (∀ q : LaceReq, inS0S1 s = false ∨ computeOn s = false ∨ secondCopy s.lace q = true →
      exec (.laceRequestReceive q) s = .next s) ∧
    (∀ q : LaceReq, takes q → nextIn s.lace q = false → exec (.laceRequestReceive q) s = .next { s with lace := { s.lace with
      taken := sput s.lace.taken (8192 * q.source + q.tag) q.gen, replyOut := [], held := [q] } }) ∧
    (∀ q : LaceReq, takes q → nextIn s.lace q = true → requestPlace s q = none → Does (.laceRequestReceive q) s fun t =>
      sent q .remoteError t ∧ t = { s with lace := t.lace }) ∧
    (∀ (q : LaceReq) (h a : Nat), takes q → nextIn s.lace q = true → q.write = true →
      requestPlace s q = some (.hbm h a) → q.data.length = q.len → Does (.laceRequestReceive q) s fun t =>
        sent q (.ok [] []) t ∧
        (∀ i, i < q.len → t.mem.hbm.get (hbmBase h + a + i) = q.data.getD i 0) ∧
        (∀ y, y < hbmBase h + a ∨ hbmBase h + a + q.len ≤ y → t.mem.hbm.get y = s.mem.hbm.get y) ∧
        StackCounts s t ∧ t = { s with lace := t.lace, mem := t.mem, free := t.free }) ∧
    (∀ (q : LaceReq) (h a : Nat), takes q → nextIn s.lace q = true → q.write = false →
      requestPlace s q = some (.hbm h a) → Does (.laceRequestReceive q) s fun t =>
        sent q (.ok (stackRead s h a q.len) (stackBad s h a q.len)) t ∧
        t.mem.hbm = s.mem.hbm ∧ t.mem.hbmPoison = s.mem.hbmPoison ∧
        StackCounts s t ∧ t = { s with lace := t.lace, mem := t.mem, free := t.free }) ∧
    (∀ (target : Nat) (sled : Bool) (lane : Fin 128),
      (inS0S1 s = true → computeOn s = true → laneRelays s lane.val = true →
        exec (.relayForward target sled lane) s = .next { s with lace := { s.lace with
          relayOut := (relayLane s sled target).map fun n => (target, sled, n) } }) ∧
      (inS0S1 s = false ∨ computeOn s = false ∨ laneRelays s lane.val = false →
        exec (.relayForward target sled lane) s = .next s))

/-- JOIN adds its lane and member to the job's entry and goes on toward the leader, a ninth job is refused;
LACE_ID_SET, LACE_TRAIN, LACE_CONFIG and LACE_RETIRE are answered with what they applied, DOMAIN_OFF outside S0
and S1 and DENIED while a Last runs (R173, R179, R184, R481).
The model's own choices in it: notes/assumptions/11, 150, 164 and 170. -/
def Obligations.LaceOpcodes : Prop :=
  ∀ (r : Req) (lane : Fin 128) (s : State),
    let w := wd r.words 0
    let id := w &&& 0x7FF#32
    let m := fld w 0 16
    let full := (wd r.words 1).getLsbD 0
    let trWs := [BitVec.ofNat 32 m, BitVec.ofNat 32 full.toNat]
    let cfg := setLaceCtl w s.lace
    let w2 := wd r.words 1 &&& 0xFF#32
    let lanes := maskLanes (fld w 0 16) (fld w2 0 8)
    let rt := fun n : Nat => [w &&& 0x1FFFF#32, w2, BitVec.ofNat 32 n]
    (inS0S1 s = false →
      (Ready 0x501 r s → Answered 0x501 (.laceIdSet r) r 7 [] s) ∧ (Ready 0x502 r s → Answered 0x502 (.laceTrain r) r 7 [] s) ∧
      (Ready 0x503 r s → Answered 0x503 (.laceConfig r) r 7 [] s) ∧
      (Ready 0x510 r s → Answered 0x510 (.laceRetire r) r 7 [] s)) ∧
    (inS0S1 s = true → lastBusy s = true →
      (Ready 0x501 r s → Answered 0x501 (.laceIdSet r) r 6 [id] s) ∧ (Ready 0x502 r s → Answered 0x502 (.laceTrain r) r 6 trWs s)) ∧
    (inS0S1 s = true → lastBusy s = false → Ready 0x501 r s → Ends 0x501 (.laceIdSet r) r 0 [id] s fun t =>
      t.lace.idValid = true ∧ t.lace.rack = fld w 6 5 ∧ t.lace.slot = fld w 0 6 ∧
      (laneDark t lane.val = false → s.lace.retired.getLsbD lane.val = false → opticalOn s = true →
        (laneOf s lane.val).peerRetired = false → (laneOf t lane.val).st = if laneLight s lane.val then .training else .waitLight) ∧
      t = { s with port := t.port
                   row := { s.row with a := { s.row.a with oldId := t.row.a.oldId }, b := { s.row.b with oldId := t.row.b.oldId } }
                   lace := { s.lace with idValid := true, rack := t.lace.rack, slot := t.lace.slot, lanes := t.lace.lanes } }) ∧
    (inS0S1 s = true → lastBusy s = false → Ready 0x502 r s → Ends 0x502 (.laceTrain r) r 0 trWs s fun t =>
      (m.testBit (lane.val / 8) = false → laneOf t lane.val = laneOf s lane.val) ∧
      (m.testBit (lane.val / 8) = true → laneDark s lane.val = false → s.lace.retired.getLsbD lane.val = false →
        opticalOn s = true → s.lace.idValid = true → full = true →
        laneOf t lane.val = { laneOf s lane.val with
          st := if laneLight s lane.val then .training else .waitLight
          ver := 0, fail := 0, fast := false, wantFull := true, peerRetired := false, replay := none }) ∧
      t = { s with port := t.port, lace := { s.lace with lanes := t.lace.lanes } }) ∧
    (inS0S1 s = true → Ready 0x503 r s → Ends 0x503 (.laceConfig r) r 0 [mkW [(24, cfg.maxVer), (0, cfg.timeoutUs)]] s fun t =>
      t = { s with port := t.port, lace := { s.lace with
        maxVer := max 1 (fld w 24 2), timeoutUs := max 10 (min 1000 (fld w 0 16)) } }) ∧
    (inS0S1 s = true → Ready 0x510 r s → lanes.any (laneDark s) = true →
      Answered 0x510 (.laceRetire r) r 6 (rt (retiredCount s)) s) ∧
    (inS0S1 s = true → Ready 0x510 r s → lanes.any (laneDark s) = false → w.getLsbD 16 = false → Does (.laceRetire r) s fun t =>
      Served t ∧ Replied 0x510 r 0 (rt (retiredCount t)) t ∧
      (∀ n, t.lace.retired.getLsbD n = (s.lace.retired.getLsbD n || lanes.contains n)) ∧
      (∀ n ∈ lanes, s.lace.retired.getLsbD n = false → (laneOf t n).st = .retired) ∧
      (∀ n, ¬ n ∈ lanes → laneOf t n = laneOf s n) ∧
      t = { s with port := t.port, lace := t.lace, sec := t.sec, log := t.log, free := t.free }) ∧
    (inS0S1 s = true → Ready 0x510 r s → lanes.any (laneDark s) = false → w.getLsbD 16 = true → Does (.laceRetire r) s fun t =>
      Served t ∧ Replied 0x510 r 0 (rt (retiredCount t)) t ∧
      (∀ n, t.lace.retired.getLsbD n = (s.lace.retired.getLsbD n && !lanes.contains n)) ∧
      (∀ n, ¬ n ∈ lanes → laneOf t n = laneOf s n) ∧
      t = { s with port := t.port, lace := t.lace, sec := t.sec, log := t.log }) ∧
    (∀ job leader member : Nat, s.isl.on = true →
      let j := job % 256
      let ok := inS0S1 s = true ∧ computeOn s = true ∧ laneActive s lane.val = true
      let joins := if leader = ownId s then s.lace.joinOut
        else s.lace.joinOut ++ ((symbolLane s (upLane s leader)).toList.map fun n => (j, leader, member, n))
      (ok → (∀ f ∈ s.lace.fwds, f.job ≠ j) → s.lace.fwds.length < 8 → exec (.join job leader member lane) s =
        .next { s with lace := { s.lace with joinOut := joins, fwds := s.lace.fwds ++
          [{ job := j, leader := leader, members := [member], lanes := [lane.val] }] } }) ∧
      (∀ f, ok → s.lace.fwds = [f] → f.job = j → exec (.join job leader member lane) s =
        .next { s with lace := { s.lace with joinOut := joins, fwds :=
          [{ f with leader := leader, members := addSorted f.members member, lanes := addSorted f.lanes lane.val }] } }) ∧
      (ok → (∀ f ∈ s.lace.fwds, f.job ≠ j) → 8 ≤ s.lace.fwds.length → Does (.join job leader member lane) s fun t =>
        Logged Ev.laceJoinRefused [(1, j)] s t ∧ t = { s with log := t.log }) ∧
      (¬ ok → exec (.join job leader member lane) s = .next s))

/-! ## Cores -/

/-- A MATRIX descriptor that is next of its core's chains runs on the physical core that serves the logical one:
it changes that core's accumulators, flags and SRAM and nothing of another core, and the chain goes on; of one
tile step from INIT each accumulator is the step's 32 products, and write-back stores each one converted to the
output format; kept in the accumulators, the SRAM stays; an illegal descriptor, or one outside a running frame or
out of its turn, changes nothing (R33, R46, R49, R58, R81, R82).
The model's own choices in it: notes/assumptions/67 to 70, 72 and 151. -/
def Obligations.MatrixDescriptors : Prop :=
  ∀ (cl core : Fin 64) (d : List Word) (start : Option Nat) (k key : Nat) (s : State), s.isl.on = true → MemoriesCanonical s →
    let turn := due s (coreHere cl.val core.val) core.val d
    let c := wd d 1
    let dst := fld (wd d 4) 0 19
    let n := outBytes (ctrlOut c)
    (coreRuns s = true → matrixOk d = true → logicalKey s cl.val core.val = some k → turn = some key →
      Does (.matrixDescriptor cl core d start) s fun t =>
        (∀ j, j ≠ k → coreRegs t j = coreRegs s j ∧ (∀ i, i < 1024 → accOf t j i = accOf s j i) ∧
          ∀ a, a < 0x60000 → t.core.sram.get (sramAt j a) = s.core.sram.get (sramAt j a)) ∧
        (ctrlKind c = 0 → t.core.sram = s.core.sram) ∧
        (fld (wd d 5) 16 16 = 1 → ctrlInit c = true → (coreRegs s k).parity = [] → ∀ i, i < 1024 →
          accOf t k i = (macStep c { acc := {} }
            ((rowElems s k d 0 (ctrlFmtA c) (fld (wd d 2) 0 19) 1 0 (i / 32)).zip
              (rowElems s k d 1 (ctrlFmtB c) (fld (wd d 3) 0 19) 1 0 (i % 32)))).acc) ∧
        (fld (wd d 5) 16 16 = 1 → ctrlKind c = 1 → dst + 1024 * n ≤ 0x60000 → ∀ i, i < 1024 →
          sramRead t k (dst + n * i) n =
            leBytes n (accOut c (frameDraw s (fld (wd d 5) 0 16) ((wd d 6).toNat + i)) (accOf t k i)).1) ∧
        t = { s with core := { s.core with regs := t.core.regs, accs := t.core.accs, sram := t.core.sram
                                           sramPoison := t.core.sramPoison }
                     mem := { s.mem with event := t.mem.event }, log := t.log, last := chainNext key d s.last }) ∧
    (coreRuns s = false ∨ matrixOk d = false ∨ logicalKey s cl.val core.val = none ∨ turn = none →
      exec (.matrixDescriptor cl core d start) s = .next s)

/-- The exact accumulation of R49 and R51: sum, flags and losses are the same for every order of the products, and
finite products within the window, none of them truncated, add up to the exact integer sum modulo 2^120 (R50). -/
def Obligations.ExactSums : Prop :=
  (∀ (fa fb : Nat) (anchor : Int) (st : Mac) (l m : List (Operand × Operand)), l.Perm m →
     l.foldl (macExact fa fb anchor) st = m.foldl (macExact fa fb anchor) st) ∧
  (∀ (fa fb : Nat) (anchor : Int) (st : Mac) (l : List (Operand × Operand)),
     let sh := fun ab : Operand × Operand => elemL fa + elemL fb + ab.1.2 + ab.2.2 - anchor
     let term := fun ab : Operand × Operand => inUnits (elemL fa) ab.1.1 * inUnits (elemL fb) ab.2.1 * 2 ^ (sh ab).toNat
     (∀ ab ∈ l, operandEvent ab.1.1 ab.2.1 {} = none ∧ 0 ≤ sh ab ∧ (term ab).natAbs < 2 ^ 95) →
     let r := l.foldl (macExact fa fb anchor) st
     r.acc = { st.acc with sum := st.acc.sum + BitVec.ofInt 120 (l.map term).sum } ∧ r.lost = st.lost ∧ r.ovfl = st.ovfl)

/-- A VECTOR descriptor of each OP that is next of its core's chains runs on the physical core that serves the
logical one and changes nothing of another core, no accumulator and no scalar register, and the chain goes on.
One group written as FP32 stores in each lane the operation's result on that lane's operands, NaN in canonical
form; REDUCE_ADD stores one word for a group; an illegal descriptor, or one outside a running frame or out of its
turn, changes nothing (R64, R65, R66, R81, R83).
The model's own choices in it: notes/assumptions/64 to 66, 72, 78, 155 and 156. -/
def Obligations.VectorDescriptors : Prop :=
  ∀ (cl core : Fin 64) (d : List Word) (k key : Nat) (s : State), s.isl.on = true → MemoriesCanonical s →
    let ops : List (Nat × Instr) :=
      [(1, .add cl core d), (2, .mul cl core d), (3, .fma cl core d), (4, .min cl core d), (5, .max cl core d),
       (6, .cvt cl core d), (7, .encode cl core d), (8, .rcp cl core d), (9, .rsqrt cl core d), (10, .exp2 cl core d),
       (11, .log2 cl core d), (12, .reduceAdd cl core d)]
    let word := fun (u : State) (a : Nat) => wordAt (sramRead u k a 4) 0
    let canon := fun w : Word => if (decF32 w).isNan then 0x7FC00000#32 else w
    let a := fld (wd d 2) 0 19
    let b := fld (wd d 3) 0 19
    let c := fld (wd d 4) 0 19
    let mode := if fld (wd d 1) 18 2 = 1 then 1 else 0
    let clean := sramBad s k a 256 = [] ∧ sramBad s k b 256 = [] ∧ sramBad s k c 256 = [] ∧ c + 256 ≤ 0x60000
    let turn := due s (coreHere cl.val core.val) core.val d
    ∀ p ∈ ops,
      (coreRuns s = true → vectorOk p.1 d = true → logicalKey s cl.val core.val = some k → turn = some key →
        Does p.2 s fun t =>
        (∀ j, j ≠ k → coreRegs t j = coreRegs s j ∧
          ∀ x, x < 0x60000 → t.core.sram.get (sramAt j x) = s.core.sram.get (sramAt j x)) ∧
        (p.1 ≠ 7 → p.1 ≠ 12 → fld (wd d 1) 20 4 = 0 → fld (wd d 5) 0 16 = 1 → clean → t.log = s.log ∧ t.mem = s.mem ∧
          (∀ i, i < 64 → word t (c + 4 * i) =
            canon (laneOp p.1 mode (word s (a + 4 * i)) (if binaryOp p.1 then word s (b + 4 * i) else 0)
              (if p.1 = 3 then word s (c + 4 * i) else 0)).1) ∧
          ∀ x, x < 0x60000 → x < c ∨ c + 256 ≤ x → t.core.sram.get (sramAt k x) = s.core.sram.get (sramAt k x)) ∧
        (p.1 = 12 → fld (wd d 1) 20 4 = 0 → fld (wd d 5) 0 16 = 1 → clean → t.log = s.log ∧ t.mem = s.mem ∧
          word t c = canon (treeAdd mode 6 ((List.range 64).map fun i => word s (a + 4 * i))).1 ∧
          ∀ x, x < 0x60000 → x < c ∨ c + 4 ≤ x → t.core.sram.get (sramAt k x) = s.core.sram.get (sramAt k x)) ∧
        t = { s with core := { s.core with regs := t.core.regs, sram := t.core.sram, sramPoison := t.core.sramPoison }
                     mem := { s.mem with event := t.mem.event }, log := t.log, last := chainNext key d s.last }) ∧
      (coreRuns s = false ∨ vectorOk p.1 d = false ∨ logicalKey s cl.val core.val = none ∨ turn = none →
        exec p.2 s = .next s)

/-! ## Transfers and collectives -/

/-- An HBM descriptor that is next of its stack's chains copies its bytes between a stack and a core's SRAM and
touches no others, the chain going on; an INDIRECT one adds 64 times its scalar register to the address; a range
out of reach leaves the stack alone, fills the destination of a read with zeros and is recorded with the image's
BUILD; an illegal one, or one outside a running frame or out of its turn, does nothing (R81, R84).
The model's own choices in it: notes/assumptions/71, 73, 74, 76, 80 and 148. -/
def Obligations.HbmTransfers : Prop :=
  ∀ (d : List Word) (k key : Nat) (s : State), s.isl.on = true → MemoriesCanonical s →
    let h := fld (wd d 2) 16 3
    let n := (wd d 3).toNat
    let sa := fld (wd d 4) 0 19
    let cl := fld (wd d 5) 8 8
    let core := fld (wd d 5) 0 8
    let i := fld (wd d 5) 16 5
    let ind := (wd d 5).getLsbD 23
    let toStack := (wd d 2).getLsbD 19
    let v := sregOf Config.sregValue s k cl core i
    let a := addr48 (wd d 1) (fld (wd d 2) 0 16) + (if ind then 64 * v.toNat else 0)
    let poisoned := ind && sregOf Config.sregPoisoned s k cl core i
    let legal := envOk 3 d = true ∧ badHbm (runReach s) h d = none
    let turn := due s (hbmHere h) 0 d
    let runs := frameRuns s = true ∧ legal ∧ turn = some key ∧ core ≠ 0xFF ∧ logicalKey s cl core = some k ∧ poisoned = false
    let reach := hbmIn a n = true ∧ lastRange s h a n = true
    let sregs := fun t : State =>
      (ind = true → sget t.core.sregs (32 * k + i) = some v) ∧ (∀ j, ind = false ∨ j ≠ 32 * k + i →
        sget t.core.sregs j = sget s.core.sregs j) ∧ (ind = false → t.core.sregPoison = s.core.sregPoison)
    let regs := fun t : State => { s.core with sregs := t.core.sregs, sregPoison := t.core.sregPoison }
    (frameRuns s = false ∨ ¬ legal ∨ turn = none → exec (.hbmDescriptor d) s = .next s) ∧
    (runs → reach → toStack = false → stackBad s h a n = [] → Does (.hbmDescriptor d) s fun t =>
        (∀ i, i < n → t.core.sram.get (sramAt k (sa + i)) = s.mem.hbm.get (hbmBase h + a + i)) ∧
        (∀ x, x < sramAt k sa ∨ sramAt k sa + n ≤ x → t.core.sram.get x = s.core.sram.get x) ∧
        t.mem.hbm = s.mem.hbm ∧ t.mem.hbmPoison = s.mem.hbmPoison ∧ sregs t ∧ StackCounts s t ∧
        t = { s with core := { regs t with sram := t.core.sram, sramPoison := t.core.sramPoison }
                     mem := t.mem, free := t.free, last := chainNext key d s.last }) ∧
    (runs → reach → toStack = true → sramBadUnits s k sa n = [] → Does (.hbmDescriptor d) s fun t =>
        (∀ i, i < n → t.mem.hbm.get (hbmBase h + a + i) = s.core.sram.get (sramAt k (sa + i))) ∧
        (∀ x, x < hbmBase h + a ∨ hbmBase h + a + n ≤ x → t.mem.hbm.get x = s.mem.hbm.get x) ∧ sregs t ∧ StackCounts s t ∧
        t = { s with core := regs t, mem := t.mem, free := t.free, last := chainNext key d s.last }) ∧
    (runs → ¬ reach → toStack = true → Does (.hbmDescriptor d) s fun t =>
        Logged Ev.lastIndirectRange [(4, (wd s.last.active 15).toNat)] s t ∧ sregs t ∧
        t = { s with core := regs t, log := t.log, last := chainNext key d s.last }) ∧
    (runs → ¬ reach → toStack = false → Does (.hbmDescriptor d) s fun t =>
        Logged Ev.lastIndirectRange [(4, (wd s.last.active 15).toNat)] s t ∧ sregs t ∧
        (∀ i, i < n → t.core.sram.get (sramAt k (sa + i)) = 0) ∧
        (∀ x, x < sramAt k sa ∨ sramAt k sa + n ≤ x → t.core.sram.get x = s.core.sram.get x) ∧
        t = { s with core := { regs t with sram := t.core.sram, sramPoison := t.core.sramPoison }
                     log := t.log, last := chainNext key d s.last })

/-- LACE and SPILL descriptors that are next of their chains become transactions of at most 512 bytes, handed to
the link in order, each with its own part of both ends: each one either holds a tag or waits for one, no more than
8,192 tags are held and no more than 4,096 by the spill engine; an illegal descriptor, or one outside a running
frame or out of its turn, changes nothing (R81, R126, R127, R152, R160, R165).
The model's own choices in it: notes/assumptions/73, 75, 80 and 85. -/
def Obligations.FabricTransfers : Prop :=
  ∀ (d : List Word) (key : Nat) (s : State), s.isl.on = true →
    let n := (wd d 3).toNat
    let w2 := wd d 2
    let w5 := wd d 5
    let w6 := wd d 6
    let parts := (n + 511) / 512
    let spills := fun u : State => (u.lace.txns.filter fun x => x.holder == .spill).length
    let place : LacePlace := if w2.getLsbD 30 then .sram (fld w6 8 6) (fld w6 0 6) (fld (wd d 1) 0 19)
      else .hbm (fld w2 16 3) (addr48 (wd d 1) (fld w2 0 16))
    let remote : LacePlace := if w2.getLsbD 29 then .sram (fld w6 24 6) (fld w6 16 6) (fld (wd d 4) 0 19)
      else .hbm (fld w5 27 3) (addr48 (wd d 4) (fld w5 0 16))
    let h := fld w2 16 3
    let a := addr48 (wd d 1) (fld w2 0 16)
    let piece := fun x : Txn => x.target = fld w5 16 11 ∧ x.number < parts ∧ x.len = min 512 (n - 512 * x.number)
    let mineL := fun x : Txn => x.holder = .descriptor ∧ piece x ∧ x.sled = false ∧ x.write = !w2.getLsbD 31 ∧
      x.place = place.plus (512 * x.number) ∧ x.remote = some (remote.plus (512 * x.number))
    let mineS := fun x : Txn => x.holder = .spill ∧ piece x ∧ x.sled = w5.getLsbD 27 ∧ x.write = w2.getLsbD 19 ∧
      x.window = fld w5 28 4 ∧ x.place = .hbm h (a + 512 * x.number) ∧
      x.offset = addr48 (wd d 4) (fld w5 0 16) + 512 * x.number
    let sent := fun (mine : Txn → Prop) (t : State) =>
      t.lace.txns.length + t.lace.waiting.length = s.lace.txns.length + s.lace.waiting.length + parts ∧
      (s.lace.txns.length ≤ 8192 → t.lace.txns.length ≤ 8192) ∧ (spills s ≤ 4096 → spills t ≤ 4096) ∧
      (s.lace.txns = [] → s.lace.waiting = [] → ∀ x, x ∈ t.lace.txns ∨ x ∈ t.lace.waiting → mine x) ∧
      t.mem.hbm = s.mem.hbm ∧ t.mem.hbmPoison = s.mem.hbmPoison
    let frame := fun (m : MemBlk) (t : State) => t = { s with
      lace := { s.lace with txns := t.lace.txns, waiting := t.lace.waiting, tagsPeak := t.lace.tagsPeak
                            tagStall := t.lace.tagStall }
      mem := { m with tagsPeak := t.mem.tagsPeak, stk := t.mem.stk }, free := t.free, log := t.log
      last := chainNext key d s.last }
    let eye := (firstEyelet s (fld w5 16 11)).getD 16
    let turnL := due s (laceHere eye) 0 d
    let turnS := due s spillHere 0 d
    (frameRuns s = true → envOk 4 d = true → badLace (runReach s) s eye d = none → turnL = some key →
      Does (.laceDescriptor d) s fun t => sent mineL t ∧ t.log = s.log ∧ frame s.mem t) ∧
    (frameRuns s = true → envOk 6 d = true → badSpill (runReach s) d = none → turnS = some key →
      Does (.spillDescriptor d) s fun t => sent mineS t ∧
        (w2.getLsbD 19 = false ∨ stackBad s h a n = [] → t.log = s.log ∧ frame s.mem t) ∧
        (w2.getLsbD 19 = true → stackBad s h a n ≠ [] → frame { s.mem with event := s.mem.event ||| 0x10 } t)) ∧
    (frameRuns s = false ∨ envOk 4 d = false ∨ badLace (runReach s) s eye d ≠ none ∨ turnL = none →
      exec (.laceDescriptor d) s = .next s) ∧
    (frameRuns s = false ∨ envOk 6 d = false ∨ badSpill (runReach s) d ≠ none ∨ turnS = none →
      exec (.spillDescriptor d) s = .next s)

/-- A COLLECTIVE descriptor that is next of the engine's chains begins with this member's own part and sends its
transactions to every other member; a contribution that comes early waits, one that comes in time joins its phase,
the last one of an ALL_REDUCE's first phase has the combined slice sent on, the last one of a collective stores
the result, one for another member goes on, one that differs faults the package; what never arrives counts as
poisoned (R81, R167, R170, R171).
The model's own choices in it: notes/assumptions/79, 83 and 84. -/
def Obligations.Collectives : Prop :=
  ∀ (d : List Word) (key : Nat) (s : State), s.isl.on = true → frameRuns s = true → MemoriesCanonical s →
    let ops : List (Nat × Instr) := [(0, .allReduce d), (1, .reduceScatter d), (2, .allGather d), (3, .allToAll d)]
    let c := collOf s d
    let turn := due s collHere 0 d
    let lacks := fun y : Coll => y.parts.length < y.size
    let txns := fun u : State => u.lace.txns.length + u.lace.waiting.length
    let pieces := fun y : Coll => (y.part + 511) / 512
    let link := fun (l : LaceBlk) (t : State) => { l with
      txns := t.lace.txns, waiting := t.lace.waiting, tagsPeak := t.lace.tagsPeak, tagStall := t.lace.tagStall }
    (∀ p ∈ ops, envOk 5 d = true → badColl (runReach s) s d = none → fld (wd d 1) 28 4 = p.1 → turn = some key →
      (∀ y ∈ s.lace.colls, lacks y) → (∀ x ∈ s.lace.early, x.index ≠ s.last.collIndex) → Does p.2 s fun t =>
        t.lace.colls = s.lace.colls ++ [c] ∧ c.index = s.last.collIndex ∧ c.size = fld (wd d 2) 20 12 ∧ c.rank < c.size ∧
        c.parts.map (·.1) = [c.rank] ∧ txns t = txns s + (c.size - 1) * pieces c ∧
        t = { s with lace := link { s.lace with colls := t.lace.colls } t
                     mem := { s.mem with tagsPeak := t.mem.tagsPeak }, free := t.free
                     last := chainNext key d { s.last with collIndex := s.last.collIndex + 1 } }) ∧
    (∀ p ∈ ops, envOk 5 d = false ∨ badColl (runReach s) s d ≠ none ∨ fld (wd d 1) 28 4 ≠ p.1 ∨ turn = none →
      exec p.2 s = .next s) ∧
    (∀ x : Contribution, opticalOn s = true →
      let fits := x.job = s.last.jobId % 256 ∧ x.f = s.last.f
      let receives := Does (.collectiveContributionReceive x) s
      let faulted := fun t : State => t.last.st = .faulted ∧
        t.lace = { s.lace with event := s.lace.event ||| 0x400, colls := [], early := [] } ∧
        t = { s with last := t.last, lace := t.lace, pwr := t.pwr, log := t.log }
      (fits → (∀ y ∈ s.lace.colls, y.index ≠ x.index) → exec (.collectiveContributionReceive x) s =
        .next { s with lace := { s.lace with early := s.lace.early ++ [x] } }) ∧
      (¬ fits → receives faulted) ∧
      (∀ y, s.lace.colls = [y] → y.index = x.index → fits → partFits s y x = false → receives faulted) ∧
      (∀ y, s.lace.colls = [y] → y.index = x.index → partFits s y x = true → x.dest ≠ y.rank → x.dest < y.size → lacks y →
        receives fun t => txns t = txns s + pieces y ∧
          t = { s with lace := link s.lace t, mem := { s.mem with tagsPeak := t.mem.tagsPeak }, free := t.free }) ∧
      (∀ y : Coll, s.lace.colls = [y] → y.index = x.index → partFits s y x = true → x.dest = y.rank → x.rank < y.size →
        let joined := { y with parts := y.parts ++ [(x.rank, some (x.data, x.poison))] }
        let gathered := { y with gathered := y.gathered ++ [(x.rank, some (x.data, x.poison))] }
        let new := (x.gather = false → ∀ p ∈ y.parts, p.1 ≠ x.rank) ∧ (x.gather = true → ∀ p ∈ y.gathered, p.1 ≠ x.rank)
        let z := if x.gather then gathered else joined
        (¬ new → lacks y → exec (.collectiveContributionReceive x) s = .next s) ∧
        (new → lacks z → exec (.collectiveContributionReceive x) s = .next { s with lace := { s.lace with colls := [z] } }) ∧
        (new → y.op = 0 → x.gather = false → y.parts.length + 1 = y.size → (∀ p ∈ y.gathered, p.1 ≠ y.rank) →
          y.gathered.length + 1 < y.size → receives fun t =>
            t.lace.colls = [{ z with gathered := y.gathered ++ [(y.rank, some (combined z))] }] ∧
            (y.rank < y.size → txns t = txns s + (y.size - 1) * pieces y) ∧
            t = { s with lace := link { s.lace with colls := t.lace.colls } t
                         mem := { s.mem with tagsPeak := t.mem.tagsPeak }, free := t.free }) ∧
        (∀ h a, new → collDone z = true → (y.op = 0 → ∃ p ∈ z.gathered, p.1 = y.rank) → y.dst = .hbm h a →
          let r := (collResult z).1
          receives fun t => t.lace = { s.lace with colls := [] } ∧
            (∀ i, i < r.length → t.mem.hbm.get (hbmBase h + a + i) = r.getD i 0) ∧
            (∀ x, x < hbmBase h + a ∨ hbmBase h + a + r.length ≤ x → t.mem.hbm.get x = s.mem.hbm.get x) ∧
            t = { s with lace := t.lace, mem := { s.mem with hbm := t.mem.hbm, hbmPoison := t.mem.hbmPoison } }))) ∧
    (∀ (i r : Nat) (g : Bool) (y : Coll), s.lace.colls = [y] → y.index = i → r < y.size → lacks y →
      (g = false → y.parts.length + 1 < y.size → (∀ p ∈ y.parts, p.1 ≠ r) → exec (.laceTimeout (.contribution i r g)) s =
        .next { s with lace := { s.lace with colls := [{ y with parts := y.parts ++ [(r, none)] }] } }) ∧
      (g = true → (∀ p ∈ y.gathered, p.1 ≠ r) → exec (.laceTimeout (.contribution i r g)) s =
        .next { s with lace := { s.lace with colls := [{ y with gathered := y.gathered ++ [(r, none)] }] } }))

/-! ## Errors, scrub and the memory opcodes -/

/-- What errors of the memories leave: a retry that helped, a first reread that failed outstanding, a unit poisoned,
counted and logged, a corrected unit counted, an SRAM word poisoned, accumulators of a parity error NaN for the next
operation's tiles and the core fault pending; where the stack does not serve, the scrub is off or the dies are off,
nothing changes (R39, R112, R120, R121).
The model's own choices in it: notes/assumptions/76, 77, 81 and 151. -/
def Obligations.MemoryErrors : Prop :=
  ∀ (h : Fin 6) (u : Nat) (cl : Fin 64) (core : Fin 65) (a : Nat) (s : State), s.isl.on = true →
    let x := s.mem.stk[h]
    let unit := hbmBase h.val / 32 + u
    let k := coreKey cl.val core.val
    let stksIs := fun (y : Stack) (t : State) => t.mem.stk[h] = y ∧ ∀ g : Fin 6, g ≠ h → t.mem.stk[g] = s.mem.stk[g]
    let again := fun (l : List (Nat × Nat)) => l.filter fun y => y.1 != unit
    let lost := fun (l : List (Nat × Nat)) (t : State) => stksIs { x with ue := min 0xFFFF (x.ue + 1) } t ∧
      Logged Ev.memHbmUe [(1, h.val), (8, 32 * u)] s t ∧
      t = { s with mem := { s.mem with stk := t.mem.stk, hbmPoison := addSorted s.mem.hbmPoison unit
                                       event := s.mem.event ||| 8, rereads := l }, log := t.log }
    let serves := stackServes s h.val = true ∧ 32 * u < stackBytes
    (∀ second : Bool, serves → (second = true → (unit, 1) ∈ s.mem.rereads) →
      (Does (.hbmRereadComplete h u second true) s fun t => Logged Ev.memHbmRetry [] s t ∧
        t = { s with mem := { s.mem with event := s.mem.event ||| 4, rereads := again s.mem.rereads }, log := t.log }) ∧
      (second = true → Does (.hbmRereadComplete h u second false) s (lost (again s.mem.rereads))) ∧
      (second = false → Does (.hbmRereadComplete h u second false) s fun t =>
        stksIs { x with inflightPeak := max x.inflightPeak (inflightNow t h.val) } t ∧
        t = { s with mem := { s.mem with stk := t.mem.stk, rereads := again s.mem.rereads ++ [(unit, 1)] } })) ∧
    (∀ second ok : Bool, ¬ serves ∨ (second = true ∧ ¬ (unit, 1) ∈ s.mem.rereads) →
      exec (.hbmRereadComplete h u second ok) s = .next s) ∧
    (serves → s.mem.scrubEn = true →
      exec (.patrolScrub h u .clean) s = .next s ∧ Does (.patrolScrub h u .uncorrectable) s (lost s.mem.rereads) ∧
      Does (.patrolScrub h u .corrected) s fun t => stksIs { x with ce := min 0xFFFF (x.ce + 1) } t ∧
        t = { s with mem := { s.mem with stk := t.mem.stk } }) ∧
    (s.mem.scrubEn = false ∨ ¬ serves → ∀ o, exec (.patrolScrub h u o) s = .next s) ∧
    (computeOn s = true → a < 0x60000 →
      exec (.sramScrub cl core a .clean) s = .next s ∧
      (Does (.sramScrub cl core a .corrected) s fun t =>
        (∀ n : Fin 64, t.mem.sramCe[n] = if n = cl then min 0xFFFF (s.mem.sramCe[n] + 1) else s.mem.sramCe[n]) ∧
        t = { s with mem := { s.mem with event := s.mem.event ||| 1, sramCe := t.mem.sramCe } }) ∧
      (Does (.sramScrub cl core a .uncorrectable) s fun t =>
        (∀ n : Fin 64, t.mem.sramUe[n] = if n = cl then min 0xFFFF (s.mem.sramUe[n] + 1) else s.mem.sramUe[n]) ∧
        Logged Ev.memSramUe [(1, cl.val), (1, core.val), (4, a)] s t ∧
        t = { s with mem := { s.mem with event := s.mem.event ||| 2, sramUe := t.mem.sramUe }, log := t.log
                     core := { s.core with sramPoison := addSorted s.core.sramPoison (sramAt k (a / 8 * 8) / 8) } })) ∧
    (computeOn s = false ∨ 0x60000 ≤ a → ∀ o, exec (.sramScrub cl core a o) s = .next s) ∧
    (∀ l : List (Fin 1024), computeOn s = true → Does (.coreParity cl core l) s fun t =>
      (∀ i : Fin 1024, (accOf t k i.val).nan = (l.contains i || (accOf s k i.val).nan)) ∧
      (∀ i ∈ l, i.val ∈ (coreRegs t k).parity) ∧ (coreRegs t k).faultPending = true ∧
      Logged Ev.coreParity [(1, cl.val), (1, core.val)] s t ∧
      t = { s with core := { s.core with accs := t.core.accs, regs := t.core.regs }, log := t.log }) ∧
    (∀ l : List (Fin 1024), computeOn s = false → exec (.coreParity cl core l) s = .next s)

/-- A stack that trains goes into service with its contents, or zero-filled where it has none, or fails; one in
service refreshes at twice the rate from 85 °C; MEM_SCRUB_SET sets the scrub; MEM_POOL_EXPORT sets or clears a
window while no Last is loaded, and denies one that overlaps (R119, R122, R125, R140, R141).
The model's own choices in it: notes/assumptions/11, 82 and 161. -/
def Obligations.StacksAndWindows : Prop :=
  ∀ (h : Fin 6) (temp : Nat) (r : Req) (s : State),
    let x := s.mem.stk[h]
    let stksIs := fun (y : Stack) (t : State) => t.mem.stk[h] = y ∧ ∀ g : Fin 6, g ≠ h → t.mem.stk[g] = s.mem.stk[g]
    let w := wd r.words 0
    let n := fld w 0 4
    let y := askedWin (wd r.words 1)
    let v := w.getLsbD 8
    let ws := [mkW [(8, v.toNat), (0, n)], if v then mkW [(24, y.stack), (12, y.base), (0, y.size)] else 0]
    let hours := max 1 (min 720 (fld w 0 16))
    (s.isl.on = true →
      (x.st = .training → railUp s 2 = true → Does (.hbmTrainDone h true temp) s fun t =>
        stksIs { x with st := .inService, zeroed := true, temp := min 255 temp, refresh2x := decide (85 ≤ temp)
                        system := s.mem.systemStack == h.val } t ∧
        (x.zeroed = true → t.mem.hbm = s.mem.hbm) ∧
        (x.zeroed = false → ∀ a, t.mem.hbm.get a = if hbmBase h.val ≤ a ∧ a < hbmBase h.val + stackBytes then 0 else s.mem.hbm.get a) ∧
        t = { s with mem := { s.mem with stk := t.mem.stk, hbm := t.mem.hbm, hbmPoison := t.mem.hbmPoison } }) ∧
      (x.st = .training → railUp s 2 = true → s.mem.systemStack ≠ h.val → Does (.hbmTrainDone h false temp) s fun t =>
        stksIs { x with st := .failed, recRetired := true, retireWaiting := false } t ∧
        Logged Ev.hbmTrainFail [(1, h.val)] s t ∧ t = { s with mem := t.mem, sec := t.sec, log := t.log }) ∧
      (x.st ≠ .training → ∀ ok, exec (.hbmTrainDone h ok temp) s = .next s) ∧
      (x.st = .inService → Does (.doubledRefresh h temp) s fun t =>
        stksIs { x with temp := min 255 temp, refresh2x := decide (85 ≤ temp) } t ∧
        t = { s with mem := { s.mem with stk := t.mem.stk } }) ∧
      (x.st ≠ .inService → exec (.doubledRefresh h temp) s = .next s)) ∧
    (Ready 0x401 r s → Ends 0x401 (.memScrubSet r) r 0 [mkW [(16, (w.getLsbD 16).toNat), (0, hours)]] s fun t =>
      t = { s with port := t.port, mem := { s.mem with scrubEn := w.getLsbD 16, passHours := hours } }) ∧
    (Ready 0x402 r s → inS0S1 s = false → Answered 0x402 (.memPoolExport r) r 7 [] s) ∧
    (Ready 0x402 r s → inS0S1 s = true → s.last.st ≠ .empty ∨ s.last.standbyValid = true →
      Answered 0x402 (.memPoolExport r) r 2 ws s) ∧
    (Ready 0x402 r s → inS0S1 s = true → s.last.st = .empty → s.last.standbyValid = false → v = true →
      winDenied s n y = true → Answered 0x402 (.memPoolExport r) r 6 ws s) ∧
    (Ready 0x402 r s → inS0S1 s = true → s.last.st = .empty → s.last.standbyValid = false → v = false ∨ winDenied s n y = false →
      Ends 0x402 (.memPoolExport r) r 0 ws s fun t =>
        (∀ i : Fin 16, t.mem.wins[i] = if i.val = n then (if v then y else {}) else s.mem.wins[i]) ∧
        t = { s with port := t.port, mem := { s.mem with wins := t.mem.wins } })

/-! ## Resets by command, repair, firmware -/

/-- RESET_DOMAIN: DOMAIN_OFF outside S0 and S1, DENIED while a Last runs without FORCE and for the security
processor in PRODUCTION; a compute reset takes the Last and clears the chosen dies and no others, the repair record
standing; a Lace reset keeps identity and repair record, and a Last that runs faults; a processor's reset is
answered before it begins (R73, R100, R109, R131, R163, R473, R474, R488).
The model's own choices in it: notes/assumptions/11 and 56. -/
def Obligations.ResetDomains : Prop :=
  ∀ (r : Req) (s : State), Ready 0x104 r s →
    let w := wd r.words 0
    let d := max 1 (min 6 (fld w 0 4))
    let mask := if d = 2 then 0xF else fld w 8 4
    let ws := [mkW [(31, (w.getLsbD 31).toNat), (8, fld w 8 4), (0, d)]]
    let may := inS0S1 s = true ∧ (lastBusy s = false ∨ w.getLsbD 31 = true)
    let laceIsReset := fun t : State => t.lace.txns = [] ∧ t.lace.waiting = [] ∧ t.lace.event = 0 ∧
      t.lace.idValid = s.lace.idValid ∧ t.lace.rack = s.lace.rack ∧ t.lace.slot = s.lace.slot ∧
      t.lace.retired = s.lace.retired ∧ t.lace.peerResetOut = activeMask s
    (d ≤ 3 → inS0S1 s = false → Answered 0x104 (.resetDomain r) r 7 [] s) ∧
    (d ≤ 3 → inS0S1 s = true → lastBusy s = true → w.getLsbD 31 = false → Answered 0x104 (.resetDomain r) r 6 ws s) ∧
    (d = 6 → s.sec.life = .production → Answered 0x104 (.resetDomain r) r 6 ws s) ∧
    (d ≤ 2 → may → mask ≠ 0 → Does (.resetDomain r) s fun t => Served t ∧ Replied 0x104 r 0 ws t ∧ t.last = {} ∧
        (∀ k, k < 4160 → mask.testBit (k / 1040) = true → coreRegs t k = {} ∧ (∀ i, i < 1024 → accOf t k i = {}) ∧
          ∀ a, a < 0x60000 → t.core.sram.get (sramAt k a) = 0) ∧
        (∀ k, k < 4160 → mask.testBit (k / 1040) = false → coreRegs t k = coreRegs s k ∧
          (∀ i, i < 1024 → accOf t k i = accOf s k i) ∧ ∀ a, a < 0x60000 → t.core.sram.get (sramAt k a) = s.core.sram.get (sramAt k a)) ∧
        (∀ n, n < 64 → (clusterOf t n).map = (clusterOf s n).map ∧ (clusterOf t n).retired = (clusterOf s n).retired ∧
          (mask.testBit (n / 16) = true → (clusterOf t n).change = none ∧ (clusterOf t n).deferred = []) ∧
          (mask.testBit (n / 16) = false → clusterOf t n = clusterOf s n)) ∧
        (∀ i : Fin 16, t.mem.wins[i] = {}) ∧ t.mem.event = 0 ∧ t.mem.scrubEn = true ∧ t.mem.passHours = 24 ∧
        ((∀ h : Fin 6, s.mem.stk[h].retireWaiting = false) → t.mem.hbm = s.mem.hbm) ∧
        (d = 1 → t.lace = { s.lace with
          colls := [], early := [], gens := t.lace.gens, txns := s.lace.txns.filter fun x => x.holder != .spill
          waiting := s.lace.waiting.filter fun x => x.holder != .spill }) ∧
        (d = 2 → laceIsReset t) ∧
        t = { s with port := t.port, last := {}, core := t.core, mem := t.mem, lace := t.lace, sec := t.sec, log := t.log
                     pwr := { s.pwr with warm := t.pwr.warm }, isl := { s.isl with ahead := [] } }) ∧
    (d = 1 → may → mask = 0 → Ends 0x104 (.resetDomain r) r 0 ws s fun t =>
      Logged Ev.domainReset [(1, 1)] s t ∧ t = { s with port := t.port, log := t.log }) ∧
    (d = 3 → may → Does (.resetDomain r) s fun t => Served t ∧ Replied 0x104 r 0 ws t ∧ laceIsReset t ∧
      (lastBusy s = true → t.last.st = .faulted ∧
        t = { s with port := t.port, lace := t.lace, log := t.log, last := t.last, pwr := t.pwr }) ∧
      (lastBusy s = false → Logged Ev.domainReset [(1, 3)] s t ∧
        t = { s with port := t.port, lace := t.lace, log := t.log })) ∧
    (d = 4 → Does (.resetDomain r) s fun t => Replied 0x104 r 0 ws t ∧ t.sec.mpRun = false ∧
      t.sec = { s.sec with mpRun := false, mpShown := t.sec.mpShown, mp := t.sec.mp, sec := t.sec.sec, isl := t.sec.isl } ∧
      t.core = s.core ∧ t.mem = s.mem ∧ t.row = s.row ∧ t.ctl = s.ctl) ∧
    (d = 5 → Does (.resetDomain r) s fun t => (r.port ≠ .cobbler → Replied 0x104 r 0 ws t) ∧ t.isl.procReset = true ∧
      t.isl.fwRun = false ∧ t.ctl = s.ctl ∧ t.vlv = s.vlv ∧ t.welt = s.welt ∧ t.row = s.row ∧ t.core = s.core) ∧
    (d = 6 → s.sec.life ≠ .production → Does (.resetDomain r) s fun t => (r.port ≠ .security → Replied 0x104 r 0 ws t) ∧
      t.sec.secRun = false ∧ t.sec.nonce = none ∧ t.sec.bindLock = s.sec.bindLock ∧ t.core = s.core ∧ t.row = s.row)

/-- The cores' map lists each logical core once and a free spare serves none (R33, R35, R477): every step keeps
that, from any state that has it.
The model's own choices in it: notes/assumptions/56. -/
def Obligations.StepKeepsRepairMaps : Prop :=
  ∀ s t : State, RepairOk s → step s = .next t → RepairOk t

/-- CORE_SWAP cancels, waits for the next switch, or is made at once: the spare takes the index over with the old
core's SRAM, a retired index is left unserved (R35, R477, R478).
The model's own choices in it: notes/assumptions/11, 54 and 55. -/
def Obligations.CoreSwaps : Prop :=
  ∀ (r : Req) (s : State), Ready 0x410 r s →
    let cl := min 63 (fld (wd r.words 0) 8 8)
    let j := min 63 (fld (wd r.words 0) 0 8)
    let a := fld (wd r.words 1) 0 2
    let c := clusterOf s cl
    let ws := fun u : State => [mkW [(8, cl), (0, j)], mkW [(0, a)], regClusterSpare u cl]
    let others := fun u : State => ∀ n, n ≠ cl → clusterOf u n = clusterOf s n
    (inS0S1 s = false → Answered 0x410 (.coreSwap r) r 7 [] s) ∧
    (inS0S1 s = true → a = 3 → s.last.inSwitch = true → Answered 0x410 (.coreSwap r) r 2 (ws s) s) ∧
    (inS0S1 s = true → a = 3 → s.last.inSwitch = false → Does (.coreSwap r) s fun t => Served t ∧ Replied 0x410 r 0 (ws t) t ∧
      clusterOf t cl = { c with change := none } ∧ others t ∧ t = { s with port := t.port, core := { s.core with clusters := t.core.clusters } }) ∧
    (inS0S1 s = true → a ≠ 3 → c.change.isSome = true → Answered 0x410 (.coreSwap r) r 2 (ws s) s) ∧
    (inS0S1 s = true → a = 0 ∨ a = 1 → c.change = none → c.spare = none → Answered 0x410 (.coreSwap r) r 6 (ws s) s) ∧
    (inS0S1 s = true → a ≠ 3 → c.change = none → a = 2 ∨ c.spare.isSome = true → lastBusy s = true →
      Does (.coreSwap r) s fun t => Served t ∧ Replied 0x410 r 1 (ws t) t ∧
        clusterOf t cl = { c with change := some { logical := j, action := a, pattern := 0 } } ∧ others t ∧
        t = { s with port := t.port, core := { s.core with clusters := t.core.clusters } }) ∧
    (∀ p o, inS0S1 s = true → a = 0 ∨ a = 1 → c.spare = some p → servedBy c j = some o → lastBusy s = false →
      (∀ n : Fin 64, s.core.clusters[n].change = none) → corePoison s (coreKey cl o) = [] → RepairOk s → p < 65 → o < 65 →
      MemoriesCanonical s →
      Does (.coreSwap r) s fun t => Served t ∧ Replied 0x410 r 0 (ws t) t ∧ servedBy (clusterOf t cl) j = some p ∧
        (clusterOf t cl).change = none ∧ others t ∧
        (a = 0 → (coreRegs t (coreKey cl o)).testRunning = true) ∧ (a = 1 → (clusterOf t cl).retired = o :: c.retired) ∧
        (∀ x, x < 0x60000 → t.core.sram.get (sramAt (coreKey cl p) x) = s.core.sram.get (sramAt (coreKey cl o) x)) ∧
        t = { s with port := t.port, core := t.core, sec := t.sec, log := t.log }) ∧
    (∀ o, inS0S1 s = true → a = 2 → servedBy c j = some o → lastBusy s = false →
      (∀ n : Fin 64, s.core.clusters[n].change = none) → Does (.coreSwap r) s fun t => Served t ∧ Replied 0x410 r 0 (ws t) t ∧
        servedBy (clusterOf t cl) j = none ∧ (clusterOf t cl).retired = o :: c.retired ∧ others t ∧
        t.core.sram = s.core.sram ∧ t = { s with port := t.port, core := t.core, sec := t.sec, log := t.log })

/-- CORE_SELFTEST and its end, and HBM_RETIRE (R36, R477, R479, R488).
The model's own choices in it: notes/assumptions/11, 55, 90 and 97. -/
def Obligations.SelfTestsAndRetirement : Prop :=
  ∀ (r : Req) (s : State),
    let cl := min 63 (fld (wd r.words 0) 8 8)
    let c := min 64 (fld (wd r.words 0) 0 8)
    let pat := fld (wd r.words 1) 0 2
    let k := clusterOf s cl
    let ws := [mkW [(8, cl), (0, c)], testWord s pat]
    let h := min 5 (fld (wd r.words 0) 0 3)
    let hw := fun u : State => [BitVec.ofNat 32 h, regStackStat (stackOf u h)]
    (Ready 0x900 r s → inS0S1 s = false → Answered 0x900 (.coreSelftest r) r 7 [] s) ∧
    (Ready 0x900 r s → inS0S1 s = true → (coreRegs s (coreKey cl c)).testRunning = true →
      Ends 0x900 (.coreSelftest r) r 2 ws s fun t => t = { s with port := t.port, free := s.free + 1 }) ∧
    (Ready 0x900 r s → inS0S1 s = true → (coreRegs s (coreKey cl c)).testRunning = false → serves k c = none →
      s.core.recordLost = false → Ends 0x900 (.coreSelftest r) r 0 ws s fun t =>
        (coreRegs t (coreKey cl c)).testCode = (Config.testCode s.free).toNat % 5 ∧
        (coreRegs t (coreKey cl c)).testRunning = false ∧ (∀ x, x ≠ coreKey cl c → coreRegs t x = coreRegs s x) ∧
        t = { s with port := t.port, free := s.free + 1, core := t.core, sec := t.sec, log := t.log }) ∧
    (∀ j, Ready 0x900 r s → inS0S1 s = true → (coreRegs s (coreKey cl c)).testRunning = false → serves k c = some j →
      k.spare.isSome = true → k.change = none → Ends 0x900 (.coreSelftest r) r 1 ws s fun t =>
        clusterOf t cl = { k with change := some { logical := j, action := 0, pattern := pat, test := true } } ∧
        t = { s with port := t.port, free := s.free + 1, core := { s.core with clusters := t.core.clusters } }) ∧
    (∀ j, Ready 0x900 r s → inS0S1 s = true → (coreRegs s (coreKey cl c)).testRunning = false → serves k c = some j →
      k.spare = none → Ends 0x900 (.coreSelftest r) r 1 ws s fun t =>
        clusterOf t cl = { k with deferred := sput k.deferred c pat } ∧
        t = { s with port := t.port, free := s.free + 1, core := { s.core with clusters := t.core.clusters } }) ∧
    (∀ (n : Fin 64) (x : Fin 65) (code : Byte), s.isl.on = true →
      let key := coreKey n.val x.val
      let q := clusterOf s n.val
      ((coreRegs s key).testRunning = false → exec (.selftestComplete n x code) s = .next s) ∧
      ((coreRegs s key).testRunning = true → s.core.recordLost = false → Does (.selftestComplete n x code) s fun t =>
        coreRegs t key = { coreRegs s key with testRunning := false, testDeferred := false, testCode := code.toNat } ∧
        (q.retired.contains x.val = false → serves q x.val = none → code = 0 → (clusterOf t n.val).spare = some x.val) ∧
        (q.retired.contains x.val = false → serves q x.val = none → code ≠ 0 → (clusterOf t n.val).retired = x.val :: q.retired) ∧
        (q.retired.contains x.val = true ∨ (serves q x.val).isSome = true → clusterOf t n.val = q) ∧
        t = { s with core := t.core, sec := t.sec, log := t.log })) ∧
    (Ready 0x411 r s → inS0S1 s = false → Answered 0x411 (.hbmRetire r) r 7 [] s) ∧
    (Ready 0x411 r s → inS0S1 s = true → (stackOf s h).st = .retired → Answered 0x411 (.hbmRetire r) r 0 (hw s) s) ∧
    (Ready 0x411 r s → inS0S1 s = true → (stackOf s h).st ≠ .retired → otherLeft s h = false →
      Answered 0x411 (.hbmRetire r) r 6 (hw s) s) ∧
    (Ready 0x411 r s → inS0S1 s = true → (stackOf s h).st ≠ .retired → otherLeft s h = true → lastBusy s = true →
      s.mem.systemStack = h → Answered 0x411 (.hbmRetire r) r 2 (hw s) s) ∧
    (Ready 0x411 r s → inS0S1 s = true → (stackOf s h).st ≠ .retired → otherLeft s h = true → lastBusy s = true →
      s.mem.systemStack ≠ h → Ends 0x411 (.hbmRetire r) r 1 (hw s) s fun t =>
        stackOf t h = { stackOf s h with retireWaiting := true } ∧ (∀ g, g ≠ h → stackOf t g = stackOf s g) ∧
        t = { s with port := t.port, mem := { s.mem with stk := t.mem.stk } }) ∧
    (Ready 0x411 r s → inS0S1 s = true → (stackOf s h).st ≠ .retired → otherLeft s h = true → lastBusy s = false →
      s.mem.systemStack ≠ h → Does (.hbmRetire r) s fun t => Served t ∧ Replied 0x411 r 0 (hw t) t ∧
        (stackOf t h).st = .retired ∧ (stackOf t h).recRetired = true ∧ (∀ g, g ≠ h → stackOf t g = stackOf s g) ∧
        (∀ a, t.mem.hbm.get a = if hbmBase h ≤ a ∧ a < hbmBase h + stackBytes then 0 else s.mem.hbm.get a) ∧
        Logged Ev.hbmRetired [(1, h)] s t ∧ t = { s with port := t.port, mem := t.mem, sec := t.sec, log := t.log })

/-- FW_LOAD opens the window for the bank that does not run and makes its image invalid, or is BUSY; FW_COMMIT
programs that bank when every check passes, else it leaves it and answers the reason with the record; FW_ACTIVATE
arms a committed bank, or is BUSY or denied; the start that follows takes the bank on trial and resets its
processor, drops a bank that does not verify, and waits out a switch frame (R482, R483, R484, R485, R490).
The model's own choices in it: notes/assumptions/11, 87, 91, 93, 94, 96 and 98. -/
def Obligations.FirmwareUpdates : Prop :=
  ∀ (r : Req) (tg : Fin 3) (s : State),
    let k := min 2 (fld (wd r.words 0) 30 2)
    let n := max 16 (min (bankWords k) (fld (wd r.words 0) 0 22))
    let idle := fun (f : Fw) => bankOf f (!f.cur)
    let one := fun (i : Nat) (t : State) => (∀ j, j < 3 → j ≠ i → t.sec.fw j = s.sec.fw j) ∧
      t.sec = { s.sec with mp := t.sec.mp, sec := t.sec.sec, isl := t.sec.isl }
    (Ready 0x700 r s → windowBusy s r.port 2 k = true ∨ (s.sec.fw k).armed = true ∨ (s.sec.fw k).trial = true →
      Answered 0x700 (.fwLoad r) r 2 [mkW [(30, k), (0, n)]] s) ∧
    (Ready 0x700 r s → windowBusy s r.port 2 k = false → (s.sec.fw k).armed = false → (s.sec.fw k).trial = false →
      Ends 0x700 (.fwLoad r) r 0 [mkW [(30, k), (0, n)]] s fun t =>
        (t.win r.port).active = true ∧ (t.win r.port).outbound = false ∧ (t.win r.port).target = 2 ∧ (t.win r.port).fw = k ∧
        (t.win r.port).left = n ∧ (idle (t.sec.fw k)).valid = false ∧
        bankOf (t.sec.fw k) (t.sec.fw k).cur = bankOf (s.sec.fw k) (s.sec.fw k).cur ∧ (t.sec.fw k).cur = (s.sec.fw k).cur ∧
        one k t ∧ t = { s with port := t.port, sec := t.sec }) ∧
    (∀ reason st, Ready 0x701 r s → fwReject s k = some (reason, st) →
      Ends 0x701 (.fwCommit r) r st [mkW [(30, k)], BitVec.ofNat 32 reason] s fun t =>
        idle (t.sec.fw k) = idle (s.sec.fw k) ∧ (t.sec.fw k).complete = false ∧ one k t ∧
        Logged Ev.fwRejected [(1, reason)] s t ∧ t = { s with port := t.port, sec := t.sec, log := t.log }) ∧
    (Ready 0x701 r s → fwReject s k = none → Ends 0x701 (.fwCommit r) r 0 [mkW [(30, k)], 0] s fun t =>
      (idle (t.sec.fw k)).image = (s.sec.fw k).words ∧ (idle (t.sec.fw k)).valid = true ∧ (idle (t.sec.fw k)).committed = true ∧
      (idle (t.sec.fw k)).release = fld (wd (s.sec.fw k).words 1) 0 8 ∧
      bankOf (t.sec.fw k) (t.sec.fw k).cur = bankOf (s.sec.fw k) (s.sec.fw k).cur ∧ one k t ∧
      Logged Ev.fwCommitted [(1, k)] s t ∧ t = { s with port := t.port, sec := t.sec, log := t.log }) ∧
    ((s.sec.fw k).complete = false → fwReject s k = some (1, 9)) ∧
    (Ready 0x702 r s → (idle (s.sec.fw k)).committed = false ∨ fwBusy s = true → Answered 0x702 (.fwActivate r) r 2 [mkW [(30, k)]] s) ∧
    (Ready 0x702 r s → (idle (s.sec.fw k)).committed = true → fwBusy s = false → k = 2 → s.isl.forced = true →
      Answered 0x702 (.fwActivate r) r 6 [mkW [(30, k)]] s) ∧
    (Ready 0x702 r s → (idle (s.sec.fw k)).committed = true → fwBusy s = false → k ≠ 2 ∨ s.isl.forced = false →
      Ends 0x702 (.fwActivate r) r 0 [mkW [(30, k)]] s fun t => t.sec.fw k = { s.sec.fw k with armed := true } ∧ one k t ∧
        t = { s with port := t.port, sec := t.sec }) ∧
    (s.isl.on = true → (s.sec.fw tg.val).armed = false → exec (.fwActivationStart tg) s = .next s) ∧
    (s.isl.on = true → (s.sec.fw tg.val).armed = true → s.last.inSwitch = true → tg.val < 2 →
      exec (.fwActivationStart tg) s = .next s) ∧
    (s.isl.on = true → (s.sec.fw tg.val).armed = true → s.last.inSwitch = false → bootOk s tg.val (!(s.sec.fw tg.val).cur) = false →
      Does (.fwActivationStart tg) s fun t => t.sec.fw tg.val = { s.sec.fw tg.val with armed := false } ∧ one tg.val t ∧
        t = { s with sec := t.sec }) ∧
    (s.isl.on = true → (s.sec.fw tg.val).armed = true → s.last.inSwitch = false → bootOk s tg.val (!(s.sec.fw tg.val).cur) = true →
      Does (.fwActivationStart tg) s fun t =>
        (t.sec.fw tg.val).cur = (!(s.sec.fw tg.val).cur) ∧ (t.sec.fw tg.val).prev = (s.sec.fw tg.val).cur ∧
        (t.sec.fw tg.val).trial = true ∧ (t.sec.fw tg.val).armed = false ∧ (tg = 0 → t.sec.mpRun = false) ∧
        (tg = 1 → t.sec.secRun = false) ∧
        (tg = 2 → t.isl.fwRun = false ∧ t.isl.updateArm = true ∧ t.isl.timeoutMs = 500 ∧ t.isl.savedTimeout = s.isl.timeoutMs) ∧
        t.core = s.core ∧ t.mem = s.mem ∧ t.last.st = s.last.st ∧ t.ctl = s.ctl ∧ t.vlv = s.vlv ∧ t.row = s.row)

/-- Trials end: an activated processor that does not come up rolls back, 60 s confirm the bank and raise the floor,
and the MP starts when its bank verifies (R283, R465, R487, R496).
The model's own choices in it: notes/assumptions/87 and 96. -/
def Obligations.TrialsAndMpStart : Prop :=
  ∀ (tg : Fin 3) (s : State), s.isl.on = true →
    let f := s.sec.fw tg.val
    let down := (tg = 0 ∧ s.sec.mpRun = false) ∨ (tg = 1 ∧ s.sec.secRun = false)
    (f.trial = true → down → Does (.trialRunTimeout tg) s fun t =>
      (t.sec.fw tg.val).cur = f.prev ∧ (t.sec.fw tg.val).trial = false ∧ (bankOf (t.sec.fw tg.val) f.cur).valid = false ∧
      Logged Ev.fwRollback [(1, tg.val)] s t ∧ t = { s with sec := t.sec, log := t.log }) ∧
    (f.trial = false ∨ ¬ down → exec (.trialRunTimeout tg) s = .next s) ∧
    (f.trial = false → exec (.trialEnd tg) s = .next s) ∧
    (f.trial = true → Does (.trialEnd tg) s fun t =>
      (t.sec.fw tg.val).trial = false ∧ (bankOf (t.sec.fw tg.val) f.cur) = { bankOf f f.cur with confirmed := true } ∧
      floorOf t tg.val = (if s.sec.secRun then max (floorOf s tg.val) (bankOf f f.cur).minRel else floorOf s tg.val) ∧
      (∀ i, i < 3 → i ≠ tg.val → floorOf t i = floorOf s i) ∧
      (tg = 2 → s.isl.updateArm = true → t.isl.updateArm = false ∧ t.isl.timeoutMs = s.isl.savedTimeout) ∧
      t = { s with sec := t.sec, isl := t.isl, log := t.log }) ∧
    (mgmtOn s = false ∨ s.sec.mpRun = true ∨ s.sec.bootFailed = true ∨ s.sec.secRun = false ∨ bootOk s 0 s.sec.mp.cur = false →
      exec .mpStart s = .next s) ∧
    (mgmtOn s = true → s.sec.secRun = true → s.sec.bootFailed = false → s.sec.mpRun = false → bootOk s 0 s.sec.mp.cur = true →
      Does .mpStart s fun t => t.sec = { s.sec with mpRun := true } ∧ t.log.buckets = [] ∧ t.pwr.pdseq = none ∧
        (s.pwr.pdseq = none → t.pwr = s.pwr) ∧
        (s.pwr.pdseq.isSome = true → t.pwr = { s.pwr with pdseq := none, event := s.pwr.event ||| 0x100 }) ∧
        t = { s with sec := t.sec, log := t.log, pwr := t.pwr })

/-! ## Security -/

/-- The security processor boots from the bank last activated, or from the other one with a record: it writes the
binding table once, sets both locks and builds the measurements from zero; when no security bank verifies it fails
with the cause, and when no MP bank does the MP stays in reset; a nonce expires (R232, R233, R497 to R500, R503,
R505).
The model's own choices in it: notes/assumptions/87, 88, 96 and 99. -/
def Obligations.SecurityBoots : Prop :=
  ∀ s : State, s.isl.on = true →
    let u : State := { s with sec := { s.sec with ownerKeys := 0 } }
    let cur := s.sec.sec.cur
    let boots := mgmtOn s = true ∧ s.sec.secRun = false
    let measured := fun (b : Bool) (t : State) =>
      t.sec.secRun = true ∧ t.sec.secLock = true ∧ t.sec.bindLock = true ∧ t.sec.nonce = none ∧
      t.sec.m[0] = extended 0 (bankDigest s 1 b) ∧ t.sec.m[3] = extended 0 (bankDigest s 2 s.sec.isl.cur) ∧
      t.sec.m[1] = extended 0 (hashWords (Config.configBlock (bankImage s 1 b))) ∧
      t.sec.m[4] = extended 0 (sha384 [BitVec.ofNat 8 s.sec.life.code, BitVec.ofNat 8 s.sec.debug]) ∧
      t.sec.m[5] = (if s.last.active = [] then 0 else extended 0 (hashWords (signedWords s.last.active))) ∧
      (s.sec.bindLock = false → (bankOf s.sec.sec b).image = [] → ∀ c : Fin 16,
        t.mbx.ch[c].sender = (bindingB0.getD c.val (0, 0)).1 ∧ t.mbx.ch[c].receiver = (bindingB0.getD c.val (0, 0)).2) ∧
      (s.sec.bindLock = true → t.mbx = s.mbx)
    (mgmtOn s = false ∨ s.sec.secRun = true → exec .securityBoot s = .next s) ∧
    (boots → bootOk u 1 cur = false → bootOk u 1 (!cur) = false → Does .securityBoot s fun t =>
        t.sec.bootFailed = true ∧ t.sec.secFailed = true ∧ (t.sec.bootErr = 1 ∨ t.sec.bootErr = 3) ∧ t.sec.mpRun = s.sec.mpRun ∧
        t.mbx = s.mbx ∧ Logged Ev.secBootFail [] s t ∧ t = { s with sec := t.sec, log := t.log }) ∧
    (boots → bootOk u 1 cur = true → s.sec.mpRun = true ∨ bootOk u 0 s.sec.mp.cur = true → Does .securityBoot s fun t =>
        measured cur t ∧ t.sec.m[2] = extended 0 (bankDigest s 0 s.sec.mp.cur) ∧ t.sec.bootFailed = false ∧
        t.sec.bootErr = 0 ∧ t.sec.mpRun = s.sec.mpRun ∧ t = { s with sec := t.sec, mbx := t.mbx }) ∧
    (boots → bootOk u 1 cur = false → bootOk u 1 (!cur) = true → s.sec.mpRun = true ∨ bootOk u 0 s.sec.mp.cur = true →
      Does .securityBoot s fun t =>
        measured (!cur) t ∧ t.sec.sec.cur = (!cur) ∧ t.sec.bootFailed = false ∧ Logged Ev.secBootFallback [(1, 1)] s t ∧
        t = { s with sec := t.sec, mbx := t.mbx, log := t.log }) ∧
    (boots → bootOk u 1 cur = true → s.sec.mpRun = false → bootOk u 0 s.sec.mp.cur = false → bootOk u 0 (!s.sec.mp.cur) = false →
      Does .securityBoot s fun t =>
        measured cur t ∧ t.sec.m[2] = 0 ∧ t.sec.bootFailed = true ∧ t.sec.secFailed = false ∧ t.sec.mpRun = false ∧
        (t.sec.bootErr = 2 ∨ t.sec.bootErr = 3) ∧ Logged Ev.secBootFail [] s t ∧
        t = { s with sec := t.sec, mbx := t.mbx, log := t.log }) ∧
    (exec .nonceExpiry s = .next { s with sec := { s.sec with nonce := none } })

/-- SEC_LIFECYCLE_SET gives a nonce, blows a transition that needs no token or comes with one, revokes a slot with a
token, and denies the rest; SEC_DEBUG_UNLOCK opens with a token and closes without; a token that fails is recorded
and spends the nonce; SEC_ATTEST gives the parts of a report and of the certificates (R500 to R504, R507, R508).
The model's own choices in it: notes/assumptions/11, 87, 89, 100 and 101. -/
def Obligations.SecurityOpcodes : Prop :=
  ∀ (r : Req) (s : State),
    let w := wd r.words 0
    let k := lifeArg w
    let lw := mkW [(28, lifeOp w), (0, k)]
    let uw := fun u : State => [mkW [(28, unlockOp w)], regSecStat u]
    let rejected := fun t : State => t.sec = { s.sec with nonce := none } ∧ Logged Ev.secAuthReject [] s t ∧
      t = { s with port := t.port, sec := t.sec, log := t.log }
    (Ready 0x801 r s → r.port = .debug → Answered 0x801 (.secLifecycleSet r) r 6 [lw] s) ∧
    (Ready 0x801 r s → r.port ≠ .debug → lifeOp w = 0 →
      let n := (Config.nonce s.free).toNat
      Ends 0x801 (.secLifecycleSet r) r 0 [lw, BitVec.ofNat 32 n, BitVec.ofNat 32 (n / 2 ^ 32)] s fun t =>
        t = { s with port := t.port, sec := { s.sec with nonce := some (Config.nonce s.free) }, free := s.free + 1 }) ∧
    (Ready 0x801 r s → r.port ≠ .debug → lifeOp w = 1 → freeTransition (fusedLife s) (lifeOf k) = true →
      Ends 0x801 (.secLifecycleSet r) r 0 [lw] s fun t => t.sec.pendLife = some (lifeOf k) ∧ t.sec.life = s.sec.life ∧
        t.sec.debug = (if lifeOf k = .production then 0 else s.sec.debug) ∧ t.sec.nonce = s.sec.nonce ∧
        Logged Ev.secLifecycleChanged [(1, (lifeOf k).code)] s t ∧ t = { s with port := t.port, sec := t.sec, log := t.log }) ∧
    (Ready 0x801 r s → r.port ≠ .debug → lifeOp w = 1 → freeTransition (fusedLife s) (lifeOf k) = false →
      tokenTransition (fusedLife s) (lifeOf k) = false → Answered 0x801 (.secLifecycleSet r) r 6 [lw] s) ∧
    (Ready 0x801 r s → r.port ≠ .debug → lifeOp w = 2 ∨ (lifeOp w = 1 ∧ freeTransition (fusedLife s) (lifeOf k) = false ∧
      tokenTransition (fusedLife s) (lifeOf k) = true) → tokenOk s 4 (keptWords 0x801 r.words) = false →
      Ends 0x801 (.secLifecycleSet r) r 6 [lw] s rejected) ∧
    (s.sec.nonce = none → ∀ n l, tokenOk s n l = false) ∧
    (Ready 0x801 r s → r.port ≠ .debug → lifeOp w = 1 → freeTransition (fusedLife s) (lifeOf k) = false →
      tokenTransition (fusedLife s) (lifeOf k) = true → tokenOk s 4 (keptWords 0x801 r.words) = true →
      Ends 0x801 (.secLifecycleSet r) r 0 [lw] s fun t => t.sec.pendLife = some (lifeOf k) ∧ t.sec.nonce = none ∧
        Logged Ev.secLifecycleChanged [(1, (lifeOf k).code)] s t ∧
        t = { s with port := t.port, sec := { s.sec with nonce := none, pendLife := t.sec.pendLife, m := t.sec.m }, log := t.log }) ∧
    (Ready 0x801 r s → r.port ≠ .debug → lifeOp w = 2 → tokenOk s 4 (keptWords 0x801 r.words) = true →
      slotInUse s k = true ∨ slotLeft s k = false → Ends 0x801 (.secLifecycleSet r) r 6 [lw] s fun t =>
        t = { s with port := t.port, sec := { s.sec with nonce := none } }) ∧
    (Ready 0x801 r s → r.port ≠ .debug → lifeOp w = 2 → tokenOk s 4 (keptWords 0x801 r.words) = true →
      slotInUse s k = false → slotLeft s k = true → Ends 0x801 (.secLifecycleSet r) r 0 [lw] s fun t =>
        Logged Ev.secSlotRevoked [(1, k)] s t ∧
        t = { s with port := t.port, sec := { s.sec with nonce := none, revoke := s.sec.revoke ||| (1#8 <<< k) }, log := t.log }) ∧
    (Ready 0x802 r s → r.port = .debug ∨ s.sec.life = .production → Answered 0x802 (.secDebugUnlock r) r 6 (uw s) s) ∧
    (Ready 0x802 r s → r.port ≠ .debug → s.sec.life ≠ .production → unlockOp w = 3 → s.sec.debug ≠ 1 →
      Answered 0x802 (.secDebugUnlock r) r 0 (uw s) s) ∧
    (Ready 0x802 r s → r.port ≠ .debug → s.sec.life ≠ .production → unlockOp w = 3 → s.sec.debug = 1 →
      Does (.secDebugUnlock r) s fun t => Served t ∧ Replied 0x802 r 0 (uw t) t ∧ t.sec.debug = 0 ∧
        t = { s with port := t.port, sec := { s.sec with debug := 0, m := t.sec.m } }) ∧
    (Ready 0x802 r s → r.port ≠ .debug → s.sec.life ≠ .production → unlockOp w = 1 → s.sec.debug ≠ 2 →
      tokenOk s (unlockSlots s) (keptWords 0x802 r.words) = false → Does (.secDebugUnlock r) s fun t =>
        Served t ∧ Replied 0x802 r 6 (uw t) t ∧ rejected t) ∧
    (Ready 0x802 r s → r.port ≠ .debug → s.sec.life ≠ .production → unlockOp w = 1 → s.sec.debug ≠ 2 →
      tokenOk s (unlockSlots s) (keptWords 0x802 r.words) = true → Does (.secDebugUnlock r) s fun t =>
        Served t ∧ Replied 0x802 r 0 (uw t) t ∧ t.sec.debug = 1 ∧ t.sec.nonce = none ∧ Logged Ev.secDebugOpened [] s t ∧
        t = { s with port := t.port, sec := { s.sec with debug := 1, nonce := none, m := t.sec.m }, log := t.log }) ∧
    (Ready 0x802 r s → r.port ≠ .debug → s.sec.life ≠ .production → unlockOp w = 1 → s.sec.debug = 2 →
      Answered 0x802 (.secDebugUnlock r) r 0 (uw s) s) ∧
    (∀ p : Nat, Ready 0x800 r s → attestPart w = p → 16 ≤ p → Answered 0x800 (.secAttest r) r 0
      ([BitVec.ofNat 32 p, BitVec.ofNat 32 certBytes.length] ++ bytesWords (padTo 112 (certBytes.drop (112 * (p - 16))))) s) ∧
    (∀ p : Nat, Ready 0x800 r s → attestPart w = p → 1 ≤ p → p ≤ 3 → sget s.sec.reports r.port.master.id = none →
      Answered 0x800 (.secAttest r) r 2 [BitVec.ofNat 32 p] s) ∧
    (∀ (p : Nat) (b : List Byte), Ready 0x800 r s → attestPart w = p → 1 ≤ p → p ≤ 3 → sget s.sec.reports r.port.master.id = some b →
      Answered 0x800 (.secAttest r) r 0
        ([BitVec.ofNat 32 p, BitVec.ofNat 32 b.length] ++ bytesWords (padTo 112 (b.drop (112 * p)))) s) ∧
    (Ready 0x800 r s → attestPart w = 0 →
      let b := report s (((keptWords 0x800 r.words).drop 1).take 8)
      Ends 0x800 (.secAttest r) r 0 ([0, BitVec.ofNat 32 b.length] ++ bytesWords (padTo 112 b)) s fun t =>
        b.length = 448 ∧ sget t.sec.reports r.port.master.id = some b ∧
        t = { s with port := t.port, sec := { s.sec with reports := t.sec.reports } })

/-! ## The cooling island -/

/-- A channel faults, recovers, disagrees with its partner or takes a pulse; a calibration starts, ends or is
refused; a calibration table is loaded and committed (R293, R298 to R304, R312, R320). The record of a fault that
stops a calibration comes before that calibration's own. -/
def Obligations.SensorsAndCalibration : Prop :=
  ∀ (ch : Fin 82) (s : State), s.isl.on = true →
    let x := sensorOf s ch.val
    let one := fun (y : Sensor) (t : State) =>
      sensorOf t ch.val = y ∧ ∀ n, n ≠ ch.val → sensorOf t n = sensorOf s n
    let sensOnly := fun t : State => t = { s with isl := { s.isl with sens := t.isl.sens } }
    let quiet := ∀ p, partner ch.val = some p → (sensorOf s p).cal = false
    (80 ≤ ch.val → exec (.sensorFault ch) s = .next s) ∧
    (ch.val < 80 → channelDieOn s ch.val = true → x.fault = true → x.dieOff = false → exec (.sensorFault ch) s = .next s) ∧
    (ch.val < 80 → channelDieOn s ch.val = true → x.fault = false ∨ x.dieOff = true → x.cal = false → quiet →
      Does (.sensorFault ch) s fun t => one { x with fault := true, dieOff := false } t ∧
        Logged Ev.sensorFault [(1, ch.val)] s t ∧
        t = { s with isl := { s.isl with sens := t.isl.sens }, log := t.log }) ∧
    (ch.val < 80 → channelDieOn s ch.val = true → x.fault = false → x.cal = true → calRequest s ch.val = none → quiet →
      Does (.sensorFault ch) s fun t => one { x with fault := true, dieOff := false, cal := false } t ∧
        Logged Ev.sensorCalResult [(1, ch.val), (1, 3)] (raise Ev.sensorFault [(1, ch.val)] s) t ∧
        t = { s with isl := { s.isl with sens := t.isl.sens }, log := t.log }) ∧
    (channelDieOn s ch.val = false → x.cal = false → quiet →
      Does (.sensorFault ch) s fun t => one { x with fault := true, dieOff := true } t ∧ sensOnly t) ∧
    (x.fault = false ∨ channelDieOn s ch.val = false → exec (.sensorRecovered ch) s = .next s) ∧
    (x.fault = true → channelDieOn s ch.val = true → Does (.sensorRecovered ch) s fun t =>
      one { x with fault := false, dieOff := false, primed := false } t ∧
      (∀ i : Fin 32, let z := slotOf s i.val
        slotOf t i.val =
          if z.inKind = 1 ∧ z.inIndex = ch.val ∨ z.inKind = 2 ∧ ch.val < 64 ∧ z.inIndex = ch.val / 4
          then { z with plausHold := true } else z) ∧
      (x.dieOff = true → t.log = s.log) ∧ (x.dieOff = false → Logged Ev.sensorRecovered [(1, ch.val)] s t) ∧
      t = { s with isl := { s.isl with sens := t.isl.sens }, ctl := { s.ctl with slots := t.ctl.slots }, log := t.log }) ∧
    (∀ p, partner ch.val = some p → ch.val < 70 → sensorValid x = true → sensorValid (sensorOf s p) = true →
      Does (.sensorDisagree ch) s fun t =>
        Logged Ev.sensorDisagree [(1, min ch.val p), (1, max ch.val p)] s t ∧ t = { s with log := t.log }) ∧
    (70 ≤ ch.val ∨ partner ch.val = none ∨ sensorValid x = false → exec (.sensorDisagree ch) s = .next s) ∧
    (∀ (n : Fin 2) (c : Nat), ch.val = 80 + n.val →
      (0 < c → Does (.flowPulse n c) s fun t => one { x with period := some c } t ∧ sensOnly t) ∧
      (Does (.flowPulseTimeout n) s fun t => one { x with period := none, y := 0, primed := true } t ∧ sensOnly t)) ∧
    (∀ (res : Nat) (off gain : BitVec 16),
      (x.cal = false → exec (.calibrationComplete ch res off gain) s = .next s) ∧
      (x.cal = true → calRequest s ch.val = none → res ≠ 0 →
        Does (.calibrationComplete ch res off gain) s fun t => one { x with cal := false } t ∧
          Logged Ev.sensorCalResult [(1, ch.val), (1, res)] s t ∧
          t = { s with isl := { s.isl with sens := t.isl.sens }, log := t.log }) ∧
      (x.cal = true → calRequest s ch.val = none → Does (.calibrationComplete ch 0 off gain) s fun t =>
          let table := some (recalibrated ch.val off gain s.isl)
          one { x with cal := false, offset := off, gain := gain } t ∧
          t.isl.calA = (if s.isl.calCurB = true then table else s.isl.calA) ∧
          t.isl.calB = (if s.isl.calCurB = true then s.isl.calB else table) ∧ t.isl.calCurB = !s.isl.calCurB ∧
          Logged Ev.sensorCalResult [(1, ch.val), (1, 0)] s t ∧
          t = { s with isl := { s.isl with sens := t.isl.sens, calA := t.isl.calA, calB := t.isl.calB, calCurB := t.isl.calCurB }
                       log := t.log }) ∧
      (∀ e, x.cal = true → calRequest s ch.val = some e → e.silent = false → res ≠ 0 →
        Does (.calibrationComplete ch res off gain) s fun t => one { x with cal := false } t ∧
          sget (t.win e.port).replies e.tag.toNat =
            some { ver := e.ver, opcode := e.op, status := 0, words := [calWord false ch.val, w32 res] } ∧
          t = { s with isl := { s.isl with sens := t.isl.sens }, port := t.port })) ∧
    (∀ r : Req, min 81 (fld (wd r.words 0) 0 7) = ch.val →
      let own := calWord (bitOf (wd r.words 0) 8) ch.val
      let inbound := (allPorts.any fun q => (s.win q).active && (s.win q).target == 3) = true
      let pairOk := (partner ch.val).isSome = true ∧ sensorValid (sensorOf s ((partner ch.val).getD ch.val)) = true
      (Ready 0x901 r s → bitOf (wd r.words 0) 8 = true →
        (inbound → Answered 0x901 (.sensorCal r) r 2 [own] s) ∧
        (¬ inbound → s.isl.calLoaded = none → Answered 0x901 (.sensorCal r) r 9 [own] s) ∧
        (∀ ws, ¬ inbound → s.isl.calLoaded = some ws → calTableOk ws = false →
          Ends 0x901 (.sensorCal r) r 9 [own] s fun t =>
            t = { s with port := t.port, isl := { s.isl with calLoaded := none } }) ∧
        (∀ ws, ¬ inbound → s.isl.calLoaded = some ws → calTableOk ws = true →
          Ends 0x901 (.sensorCal r) r 0 [own] s fun t =>
            let l := some (tableEntries ws)
            t = { s with port := t.port, isl := { s.isl with
              calLoaded := none, calCommit := l, calCurB := !s.isl.calCurB
              calA := if s.isl.calCurB = true then l else s.isl.calA
              calB := if s.isl.calCurB = true then s.isl.calB else l } })) ∧
      (Ready 0x901 r s → bitOf (wd r.words 0) 8 = false →
        (80 ≤ ch.val → Answered 0x901 (.sensorCal r) r 6 [own, 0] s) ∧
        (ch.val < 80 → x.cal = true ∨ ¬ quiet → Answered 0x901 (.sensorCal r) r 2 [own, 0] s) ∧
        (ch.val < 80 → x.cal = false → quiet → ¬ pairOk → feedsClosed s ch.val = true →
          Ends 0x901 (.sensorCal r) r 1 [own, 0] s fun t => one { x with deferred := true } t ∧
            t = { s with port := t.port, isl := { s.isl with sens := t.isl.sens } }) ∧
        (ch.val < 80 → x.cal = false → quiet → pairOk ∨ feedsClosed s ch.val = false →
          Does (.sensorCal r) s fun t => one { x with cal := true } t ∧
            t.port.ctx = [{ ctxOf 0x901 r s with words := [own] }] ∧ (∀ q, t.win q = s.win q) ∧
            t = { s with port := t.port, isl := { s.isl with sens := t.isl.sens } })) ∧
      (Ready 0x902 r s → windowBusy s r.port 3 0 = true → Answered 0x902 (.calTableLoad r) r 2 [166#32] s) ∧
      (Ready 0x902 r s → windowBusy s r.port 3 0 = false →
        Ends 0x902 (.calTableLoad r) r 0 [166#32] s fun t =>
          (t.win r.port).active = true ∧ (t.win r.port).outbound = false ∧ (t.win r.port).target = 3 ∧
          (t.win r.port).left = 166 ∧ (t.win r.port).tag = r.tag ∧ (t.win r.port).inWords = [] ∧
          t = { s with port := t.port, isl := { s.isl with calLoaded := none } }))

/-- The control tick counts, takes its samples, pins and levels, filters the channels of powered dies and trips at
115 °C; the strobe sets when the next one fires; the outputs are applied together; a zone-energy push replaces what
was delivered or waits behind a collision until it is issued again; a forecast goes stale; the package's message is
built and queued on A, the rack's on B by its steward (R254, R296, R298, R307, R308, R312, R321, R373, R385, R412).
The model's own choices in it: notes/assumptions/40 and 63. -/
def Obligations.TickAndForecast : Prop :=
  ∀ s : State, s.isl.on = true →
    let calm := s.isl.calCommit = none ∧ ∀ c : Nat, (sensorOf s c).deferred = false
    (∀ x : TickIn, Does (.controlTick x) s fun t =>
      t.isl.tick = s.isl.tick + 1 ∧ t.isl.tickInFrame = s.isl.tickInFrame + 1 ∧ t.isl.calCommit = none ∧
      t.isl.tickHist = (s.isl.tickHist <<< 1) ||| (if x.fromStrobe = true then 0 else 1) ∧
      t.vlv.pinIn = x.pins ∧ ∀ i : Fin 7, t.welt.level[i] = x.welt.getD i.val s.welt.level[i]) ∧
    (∀ x : TickIn, calm → tripChannel s x 115 = none → Does (.controlTick x) s fun t =>
      (∀ c : Nat, c < 82 → channelDieOn s c = true → sensorOf t c = sensorTick c (samplesOf x c) (sensorOf s c)) ∧
      t.pwr.en = s.pwr.en ∧ t.pwr.seq = s.pwr.seq ∧ t.welt.thermTrip = s.welt.thermTrip ∧
      t = { s with isl := t.isl, ctl := t.ctl, vlv := t.vlv, welt := t.welt, pwr := t.pwr, health := t.health
                   port := t.port, log := t.log }) ∧
    (∀ (x : TickIn) (c : Nat), calm → s.welt.thermTrip = false → goingToS3 s = false → tripChannel s x 115 = some c →
      Does (.controlTick x) s fun t => t.welt.thermTrip = true ∧ t.welt.thermLatch = true ∧ t.welt.thermCh = c ∧
        t.welt.tripAt = s.log.elapsed ∧ t.welt.event.getLsbD 1 = true ∧ t.pwr.target = .s3) ∧
    (∀ n : Nat,
      (inS0S1 s = true → exec (.frameStrobe n) s = .next { s with isl := { s.isl with
        fireAt := if 4500 ≤ n then n else min 5500 (n + 5000) } }) ∧
      (inS0S1 s = false → exec (.frameStrobe n) s = .next s)) ∧
    (Does .loopOutputApply s fun t =>
      (∀ i, i < 32 → slotOf t i = { slotOf s i with out := (slotOf s i).next }) ∧
      (∀ n, n < 4 →
        ((∀ i, i < 32 → ¬ ((slotOf s i).actKind = 3 ∧ (slotOf s i).actIndex = n)) →
          vget t.vlv.pwm n {} = vget s.vlv.pwm n {}) ∧
        (∀ i, i < 32 → (slotOf s i).actKind = 3 → (slotOf s i).actIndex = n →
          (∀ j, j < 32 → j ≠ i → ¬ ((slotOf s j).actKind = 3 ∧ (slotOf s j).actIndex = n)) →
          vget t.vlv.pwm n {} = { vget s.vlv.pwm n {} with duty := dutyOf (slotOf s i).next })) ∧
      (∀ (b : Bool) (m : Nat), m < 128 →
        let drives := fun i => (slotOf s i).actKind = 4 ∧ decide (128 ≤ (slotOf s i).actIndex) = b ∧
          (slotOf s i).actIndex % 128 = m
        ((∀ i, i < 32 → ¬ drives i) → objOf t b m = objOf s b m) ∧
        (∀ i, i < 32 → drives i → (∀ j, j < 32 → j ≠ i → ¬ drives j) →
          objOf t b m = { objOf s b m with
            data := leBytes 2 (slotOf s i).next ++ (objOf s b m).data.drop 2 })) ∧
      t = { s with ctl := { s.ctl with slots := t.ctl.slots }, vlv := { s.vlv with pwm := t.vlv.pwm }
                   row := { s.row with a := { s.row.a with objs := t.row.a.objs }
                                       b := { s.row.b with objs := t.row.b.objs } } }) ∧
    (∀ n : Nat,
      let pushed := { s.isl with ahead := deliveredFrames s n, stale := false, lastLimit := lowestLimit s }
      (mpRuns s = false → ∀ c, exec (.zoneEnergyPush n c) s = .next s) ∧
      (∀ c, mpRuns s = true → c = true ∨ s.mbx.bridgeRetry ≠ [] → exec (.zoneEnergyPush n c) s =
        .next { s with mbx := { s.mbx with bridgeRetry := s.mbx.bridgeRetry ++ [n] } }) ∧
      (mpRuns s = true → s.mbx.bridgeRetry = [] → exec (.zoneEnergyPush n false) s = .next { s with isl := pushed }) ∧
      (s.mbx.bridgeRetry = [] → exec .bridgeRetryReissue s = .next s) ∧
      (s.mbx.bridgeRetry = [n] → mpRuns s = true → exec .bridgeRetryReissue s =
        .next { s with isl := pushed, mbx := { s.mbx with bridgeRetry := [] } }) ∧
      (mpRuns s = false → exec .bridgeRetryReissue s = .next { s with mbx := { s.mbx with bridgeRetry := [] } })) ∧
    (inS0S1 s = true → s.last.st ≠ .empty → exec .forecastStale s = .next { s with isl := { s.isl with stale := true } }) ∧
    (inS0S1 s = false ∨ s.last.st = .empty → exec .forecastStale s = .next s) ∧
    (let d := forecastBytes s (s.isl.rackSeq + 1)
     let built := { s.isl with rackSeq := s.isl.rackSeq + 1, rackMsg := d }
     (s.lace.idValid = false → exec (.forecastSend false) s = .next { s with isl := built }) ∧
     (s.lace.idValid = true → Does (.forecastSend false) s fun t =>
       objOf t false 3 = queueOne { objOf s false 3 with seqCnt := s.isl.rackSeq.toNat, data := padTo 64 d } ∧
       (∀ m, m ≠ 3 → objOf t false m = objOf s false m) ∧
       t.stew.a.heard = sput s.stew.a.heard (rowNode s false)
         { at_ := s.log.elapsed, measW := meanMeas s, fs := forecastW s } ∧
       t = { s with isl := built, row := { s.row with a := { s.row.a with objs := t.row.a.objs } }
                    stew := { s.stew with a := { s.stew.a with heard := t.stew.a.heard } } })) ∧
    (s.lace.idValid = false ∨ s.stew.a.grantHeld = false → exec (.forecastSend true) s = .next s) ∧
    (s.lace.idValid = true → s.stew.a.grantHeld = true →
      let v1 := s.row.b.sendVer = 1
      Does (.forecastSend true) s fun t =>
        (sget t.stew.b.heard (rowNode s true)).isSome = true ∧
        (∀ m u, ensureObj true ((if v1 then 0x1C0 else 0x180) + rowNode s true) true (if v1 then 8 else 10) (some 1) 0 s =
          (some m, u) → objOf t true m = queueOne { objOf u true m with data := padTo 64 (rackBytes s) }) ∧
        t = { s with row := { s.row with b := t.row.b }
                     stew := { s.stew with b := { s.stew.b with heard := t.stew.b.heard } } })

/-- Toecap: the key services it and any other word expires it; an expiry forces every output, degrades the cooling,
queues FAILSAFE and is recorded once; Cobbler releases the forced state a second after the restart, and a rail
failure's after 10 s in S3; the island processor starts again from a bank that verifies; TOECAP_SET sets the timeout
but during an update (R25, R310, R311, R316, R355, R414, R499). -/
def Obligations.Toecap : Prop :=
  ∀ (m : Master) (w : Word) (r : Req) (s : State),
    let ms := clampN 10 1000 (fld (wd r.words 0) 0 16)
    (Ready 0x202 r s → s.isl.updateArm = true → Answered 0x202 (.toecapSet r) r 6 [BitVec.ofNat 32 ms] s) ∧
    (Ready 0x202 r s → s.isl.updateArm = false → Ends 0x202 (.toecapSet r) r 0 [BitVec.ofNat 32 ms] s fun t =>
      t = { s with port := t.port, isl := { s.isl with timeoutMs := ms } }) ∧
    (s.isl.on = true →
      (masterReach s m = false ∨ m ≠ .cobbler → exec (.toecapService m w) s = .next s ∧ exec (.toecapRelease m) s = .next s) ∧
      (exec (.toecapService .cobbler 0x00007E1A#32) s = .next s) ∧
      (masterReach s .cobbler = true → w ≠ 0x00007E1A#32 → exec (.toecapService .cobbler w) s = exec .toecapExpiry s) ∧
      (s.isl.toecapHeld = true → exec .toecapExpiry s = .next s) ∧
      (s.isl.toecapHeld = false → Does .toecapExpiry s fun t =>
        t.isl.forced = true ∧ t.isl.coolDegraded = true ∧ t.isl.toecapExpired = true ∧ t.isl.toecapHeld = true ∧
        t.isl.expiries = (s.log.powerOn.toNat, s.log.elapsed, bn s.sec.isl.cur) :: s.isl.expiries ∧
        t.vlv.forcedToecap = true ∧ t.vlv.pinFunc = Vector.replicate 12 0 ∧
        (∀ k, k < 20 → (valveOf t k).forced = true) ∧ t.pwr.event.getLsbD 1 = true ∧
        t.health.state.getLsbD 5 = true ∧ t.health.state.getLsbD 6 = true ∧
        t.row.a.failCount = 0 ∧ t.row.b.failCount = 0 ∧
        ((objOf s false 1).valid = true → (objOf s false 1).send = true → (objOf s false 1).tx ≠ .onBus →
          (objOf t false 1).tx = .pending) ∧
        (s.welt.test = none → s.sec.isl.trial = false → s.isl.expiries.length ≤ 1 →
          Logged Ev.toecapExpiry [(1, bn s.sec.isl.cur), (4, s.isl.tick.toNat)] s t ∧ t.sec = s.sec) ∧
        t = { s with isl := t.isl, vlv := t.vlv, pwr := t.pwr, health := t.health, port := t.port, row := t.row
                     stew := t.stew, welt := t.welt, log := t.log, sec := t.sec }) ∧
      (masterReach s .cobbler = true → s.vlv.forcedRail = false →
        s.isl.forced = false ∨ s.isl.toecapHeld = true ∨ s.log.elapsed < s.isl.restartAt + 1000000 →
        exec (.toecapRelease .cobbler) s = .next s) ∧
      (masterReach s .cobbler = true → s.vlv.forcedRail = false → s.vlv.forcedPower = false → s.isl.forced = true →
        s.isl.toecapHeld = false → s.isl.restartAt + 1000000 ≤ s.log.elapsed →
        Does (.toecapRelease .cobbler) s fun t =>
          t.isl = { s.isl with forced := false, coolDegraded := false } ∧ t.vlv.forcedToecap = false ∧
          (∀ k, k < 20 → valveOf t k = { valveOf s k with forced := false }) ∧
          (∀ i, i < 32 → slotOf t i = { slotOf s i with plausHold := true }) ∧
          objOf t false 1 = queueOne { objOf s false 1 with data := padTo 64 (failsafeBytes s false false) } ∧
          t = { s with isl := t.isl, vlv := { s.vlv with forcedToecap := false, ch := t.vlv.ch }
                       ctl := { s.ctl with slots := t.ctl.slots }, row := t.row }) ∧
      (∀ at_, masterReach s .cobbler = true → s.isl.forced = false → s.vlv.forcedRail = true → s.vlv.railS3 = some at_ →
        at_ + 10000000 ≤ s.log.elapsed → s.vlv.forcedPower = false → s.vlv.forcedToecap = false →
        Does (.toecapRelease .cobbler) s fun t => (∀ k, k < 20 → valveOf t k = { valveOf s k with forced := false }) ∧
          t = { s with vlv := { s.vlv with forcedRail := false, railS3 := none, ch := t.vlv.ch } }) ∧
      (s.isl.procReset = false → exec .islandProcessorRelease s = .next s) ∧
      (let released := { s.isl with procReset := false, toecapHeld := false, restartAt := s.log.elapsed }
       (s.isl.procReset = true → bootBank s 2 = some s.sec.isl.cur → exec .islandProcessorRelease s =
         .next { s with isl := { released with fwRun := true, bootFail := false } }) ∧
       (s.isl.procReset = true → bootBank s 2 = some (!s.sec.isl.cur) → Does .islandProcessorRelease s fun t =>
         Logged Ev.islBootFallback [] s t ∧
         t = { s with isl := { released with fwRun := true, bootFail := false }, log := t.log
                      sec := { s.sec with isl := { s.sec.isl with cur := !s.sec.isl.cur } } }) ∧
       (s.isl.procReset = true → bootBank s 2 = none → Does .islandProcessorRelease s fun t =>
         Logged Ev.islBootFail [] s t ∧
         t = { s with isl := { released with bootFail := true, coolDegraded := true }, log := t.log
                      pwr := { s.pwr with
                        event := s.pwr.event ||| 2
                        inForceW := if mpRuns s = true then s.pwr.inForceW else min 400 s.pwr.inForceW
                        issue := if mpRuns s = true then s.pwr.issue else min 4 s.pwr.issue } })))

/-- V_ISL going and coming: what flash, the fuses and the latches on V_AUX33 keep, and what an island power-up
restores, counts and forces (R267, R295, R355, R389, R454, R473, R487, R501). -/
def Obligations.IslandPower : Prop :=
  ∀ s : State,
    (Does .vIslLoss s fun t =>
      t.isl.on = false ∧ t.pending = s.pending ∧ t.pwr.en = 0 ∧ t.port.ctx = [] ∧ t.mem.hbm = [] ∧ t.core.sram = [] ∧
      t.log.pageA = s.log.pageA ∧ t.log.pageB = s.log.pageB ∧ t.log.mainLog = s.log.mainLog ∧ t.log.islQueue = [] ∧
      t.log.islOpen = none ∧ t.log.mainQueue = [] ∧ t.log.powerOn = s.log.powerOn ∧ t.sec.life = s.sec.life ∧
      t.sec.revoke = s.sec.revoke ∧ t.sec.serial = s.sec.serial ∧ t.isl.calA = s.isl.calA ∧ t.isl.calB = s.isl.calB ∧
      t.lace.idValid = s.lace.idValid ∧ t.lace.rack = s.lace.rack ∧ t.lace.slot = s.lace.slot ∧
      t.lace.retired = s.lace.retired ∧ t.core.fuseRetired = s.core.fuseRetired ∧
      t.welt.killLatch = s.welt.killLatch ∧ t.welt.thermLatch = s.welt.thermLatch ∧
      ∀ k, k < 3 → (t.sec.fw k).cur = (s.sec.fw k).cur ∧ (t.sec.fw k).a = (s.sec.fw k).a ∧ (t.sec.fw k).b = (s.sec.fw k).b) ∧
    (Does .islandPowerUp s fun t =>
      t.isl.on = true ∧ t.isl.procReset = true ∧ t.log.elapsed = 0 ∧ t.pwr.markerClean = false ∧
      t.log.powerOn = (if s.log.powerOn = 0xFFFFFFFF#32 then s.log.powerOn else s.log.powerOn + 1) ∧
      t.pwr.wakeCause = 0x80#32 ∧ t.pwr.pstate = .s3 ∧
      t.pwr.event.getLsbD 9 = !s.pwr.markerClean ∧ t.health.state.getLsbD 0 = !s.pwr.markerClean ∧
      t.welt.leakTrip = s.welt.killLatch ∧ t.welt.thermTrip = s.welt.thermLatch ∧
      t.sec.life = s.sec.pendLife.getD s.sec.life ∧ t.sec.pendLife = none ∧
      t.sec.debug = (if s.sec.pendLife.getD s.sec.life = .manufacture then 2 else 0) ∧
      (∀ k, k < 20 → (valveOf t k).forced = true) ∧ t.vlv.forcedPower = true ∧
      ∀ k, k < 3 → (t.sec.fw k).trial = false ∧
        (t.sec.fw k).cur = if (s.sec.fw k).trial = true then (s.sec.fw k).prev else (s.sec.fw k).cur)

/-! ## Loops, valves, pumps and Welt -/

/-- The loop opcodes: a slot that a steward holds, or whose output another slot drives, is denied, one that is CLOSED
or in TEST is busy, and the rest is applied and answered as applied; a test's end holds BASE or aborts; the
supervision's two trips put the slot in OPEN_HOLD or mark it; the plausibility windows end (R208, R322, R323, R327,
R333, R334, R335, R336, R344).
The model's own choices in it: notes/assumptions/11, 42, 125, 136, 160, 167 and 168. -/
def Obligations.LoopCommands : Prop :=
  ∀ (r : Req) (i : Fin 32) (s : State),
    let x := slotOf s i.val
    let w := wd r.words
    let n := configured r.words (16384 - (poolUsed s - poolOf x)) x
    let cfg := configWords i.val (fld (w 8) 0 6) n
    let one := fun (y : Slot) (t : State) => slotOf t i.val = y ∧ ∀ j, j ≠ i.val → slotOf t j = slotOf s j
    let m := modeArg (w 0)
    let man := min 0x8000 (fld (w 2) 0 16)
    let mws := [mkW [(24, i.val), (0, m)], BitVec.ofNat 32 (fld (w 1) 0 16), BitVec.ofNat 32 man]
    let cws := mkW [(24, i.val)] :: (r.words.drop 1).take 10
    let kind := min 2 (fld (w 0) 22 2)
    let len := clampN 1 16384 (fld (w 3) 0 15)
    let tws := [mkW [(24, i.val), (22, kind), (16, fld (w 0) 16 2), (8, fld (w 0) 8 8), (0, max 1 (fld (w 0) 0 8))],
      mkW [(16, min 0x8000 (fld (w 1) 16 16)), (0, min 0x8000 (fld (w 1) 0 16))],
      mkW [(16, min 50000 (fld (w 2) 16 16)), (0, min 50000 (fld (w 2) 0 16))], mkW [(16, fld (w 3) 16 16), (0, len)]]
    let size := BitVec.ofNat 32 (2 * s.ctl.capture.length)
    (Ready 0x210 r s → slotArg r.words = i.val →
      (stewardDenied s r.port i.val = true ∨ outTaken s i.val n.outKind n.outIndex = true →
        Answered 0x210 (.loopConfig r) r 6 cfg s) ∧
      (stewardDenied s r.port i.val = false → outTaken s i.val n.outKind n.outIndex = false → slotShut x = true →
        Answered 0x210 (.loopConfig r) r 2 cfg s) ∧
      (stewardDenied s r.port i.val = false → outTaken s i.val n.outKind n.outIndex = false → slotShut x = false →
        Ends 0x210 (.loopConfig r) r 0 cfg s fun t => one (keepTable s x n) t ∧
          t = { s with port := t.port, ctl := { s.ctl with slots := t.ctl.slots }
                       isl := { s.isl with lead := fld (w 8) 0 6 } })) ∧
    (Ready 0x211 r s → slotArg r.words = i.val →
      let busy := x.mode = .test ∨ (m = 2 ∧ inputInCal s x = true)
      (stewardDenied s r.port i.val = true → Answered 0x211 (.loopMode r) r 6 mws s) ∧
      (stewardDenied s r.port i.val = false → busy → Answered 0x211 (.loopMode r) r 2 mws s) ∧
      (stewardDenied s r.port i.val = false → ¬ busy → Ends 0x211 (.loopMode r) r 0 mws s fun t =>
        one { x with
          target := sext 16 (fld (w 1) 0 16), manual := man, fault := x.fault && m != 2
          pendMode := if m = 0 then some .openHold else if m = 1 then some .openManual
                      else if m = 2 then some .closed else x.pendMode } t ∧
        t = { s with port := t.port, ctl := { s.ctl with
          slots := t.ctl.slots, test := if m = 7 then s.ctl.test else s.ctl.test.filter fun y => y.slot != i.val } })) ∧
    (Ready 0x212 r s → slotArg r.words = i.val →
      (stewardDenied s r.port i.val = true → Answered 0x212 (.loopCoeffSet r) r 6 cws s) ∧
      (stewardDenied s r.port i.val = false → slotShut x = true → Answered 0x212 (.loopCoeffSet r) r 2 cws s) ∧
      (stewardDenied s r.port i.val = false → slotShut x = false → Ends 0x212 (.loopCoeffSet r) r 0 cws s fun t =>
        one { x with
          b0 := (w 1).toInt, b1 := (w 2).toInt, b2 := (w 3).toInt, b3 := (w 4).toInt, a1 := (w 5).toInt
          a2 := (w 6).toInt, a3 := (w 7).toInt, ki := (w 8).toInt, kff := (w 9).toInt, kr := (w 10).toInt } t ∧
        t = { s with port := t.port, ctl := { s.ctl with slots := t.ctl.slots } })) ∧
    (Ready 0x903 r s → slotArg r.words = i.val →
      (stewardDenied s r.port i.val = true → Answered 0x903 (.loopTest r) r 6 tws s) ∧
      (stewardDenied s r.port i.val = false → slotShut x = true ∨ s.ctl.test.isSome = true ∨ captureOpen s = true →
        Answered 0x903 (.loopTest r) r 2 tws s) ∧
      (stewardDenied s r.port i.val = false → slotShut x = false → s.ctl.test = none → captureOpen s = false →
        Ends 0x903 (.loopTest r) r 0 tws s fun t => one { x with pendMode := some .test } t ∧
          t.ctl.testSlot = i.val ∧ t.ctl.capture = [] ∧
          t.ctl.test.map (fun y => (y.slot, y.kind, y.length, y.n)) = some (i.val, kind, len, 0) ∧
          t = { s with port := t.port, ctl := t.ctl })) ∧
    (Ready 0x904 r s → s.ctl.test.isSome = true ∨ windowBusy s r.port 5 0 = true →
      Answered 0x904 (.captureRead r) r 2 [size] s) ∧
    (Ready 0x904 r s → s.ctl.test = none → windowBusy s r.port 5 0 = false → s.ctl.capture ≠ [] →
      Ends 0x904 (.captureRead r) r 0 [size] s fun t =>
        (t.win r.port).active = true ∧ (t.win r.port).outbound = true ∧ (t.win r.port).target = 5 ∧
        (t.win r.port).left = 2 * s.ctl.capture.length ∧
        (t.win r.port).outWords = s.ctl.capture.flatMap (fun y => [ofS32 y.1, ofS32 y.2]) ∧ OnlyPorts s t) ∧
    (s.isl.on = true →
      (s.ctl.test = none → exec .testDone s = .next s) ∧
      (∀ y, s.ctl.test = some y → y.n < testTicks y → exec .testDone s = .next s) ∧
      (∀ y, s.ctl.test = some y → testTicks y ≤ y.n → y.slot = i.val → limitPassed s x y (slotInput s x) = false →
        x.outOfBand < 1000 → Does .testDone s fun t => one (holdAt y.base x) t ∧
          t = { s with ctl := { s.ctl with slots := t.ctl.slots, event := s.ctl.event ||| 1, test := none } }) ∧
      (∀ y, s.ctl.test = some y → testTicks y ≤ y.n → y.slot = i.val →
        limitPassed s x y (slotInput s x) = true ∨ 1000 ≤ x.outOfBand → Does .testDone s fun t => one (holdAt x.safeOut x) t ∧ Logged Ev.loopTestAbort [(1, i.val)] s t ∧
          t = { s with ctl := { s.ctl with slots := t.ctl.slots, event := s.ctl.event ||| 2, test := none }, log := t.log }) ∧
      (x.outOfBand < 1000 → exec (.loopImplausible i) s = .next s) ∧
      (1000 ≤ x.outOfBand → x.mode ≠ .test → Does (.loopImplausible i) s fun t =>
        one { holdAt x.safeOut x with fault := true, afterFault := true, outOfBand := 0 } t ∧
        t.ctl.implaus.getLsbD i.val = true ∧ Logged Ev.loopImplausible [(1, i.val)] s t ∧
        (x.steward = false → t.row = s.row ∧ t.stew = s.stew) ∧
        t = { s with ctl := { s.ctl with slots := t.ctl.slots, implaus := t.ctl.implaus }, log := t.log, row := t.row
                     stew := t.stew }) ∧
      (∀ y, 1000 ≤ x.outOfBand → x.mode = .test → s.ctl.test = some y → y.slot = i.val → Does (.loopImplausible i) s fun t =>
        one { holdAt x.safeOut x with fault := true, afterFault := true, outOfBand := 0 } t ∧ t.ctl.test = none ∧
        t.ctl.implaus.getLsbD i.val = true ∧ t.ctl.event = s.ctl.event ||| 2 ∧
        Logged Ev.loopImplausible [(1, i.val)] (raise Ev.loopTestAbort [(1, i.val)] s) t ∧
        t = { s with ctl := { s.ctl with slots := t.ctl.slots, implaus := t.ctl.implaus, event := t.ctl.event, test := none }
                     log := t.log, row := t.row, stew := t.stew }) ∧
      (x.atLimit < x.satTime * 100 ∨ x.satRaised = true ∨ x.mode ≠ .closed → exec (.loopSaturated i) s = .next s) ∧
      (x.satTime * 100 ≤ x.atLimit → x.satRaised = false → x.mode = .closed → Does (.loopSaturated i) s fun t =>
        one (if x.satAction = true then { holdAt x.safeOut x with fault := true, afterFault := true, outOfBand := 0 }
             else { x with fault := true, satRaised := true, afterFault := true }) t ∧
        t.ctl.sat.getLsbD i.val = true ∧ Logged Ev.loopSaturated [(1, i.val)] s t ∧
        (x.steward = false → t.row = s.row ∧ t.stew = s.stew) ∧
        t = { s with ctl := { s.ctl with slots := t.ctl.slots, sat := t.ctl.sat }, log := t.log, row := t.row
                     stew := t.stew }) ∧
      (exec (.plausWindowEnd none) s = .next { s with isl := { s.isl with plausWindow := false } }) ∧
      (Does (.plausWindowEnd (some i)) s fun t => one { x with plausHold := false } t ∧
        t = { s with ctl := { s.ctl with slots := t.ctl.slots } }))

/-- The repetitive tables share a pool of 16,384 entries: an accepted LOOP_CONFIG takes REP_LEN rounded up to a
multiple of 16, clamped to what the other slots leave free, and applies REP_EN as 0 where fewer than 16 entries are
free; the pool is never exceeded, and the reply carries the applied values (R331). -/
def Obligations.RepetitivePool : Prop :=
  ∀ (r : Req) (i : Fin 32) (s : State), Ready 0x210 r s → slotArg r.words = i.val →
    let takes := fun x : Slot => if x.repEn = true then 16 * ((x.repLen + 15) / 16) else 0
    let others := ((List.range 32).map fun j => if j = i.val then 0 else takes (slotOf s j)).sum
    let free := 16384 - others
    let asked := max 16 (min 4096 (fld (wd r.words 3) 0 13))
    let wants := bitOf (wd r.words 1) 21 = true
    let n := configured r.words (16384 - (poolUsed s - poolOf (slotOf s i.val))) (slotOf s i.val)
    others + takes (slotOf s i.val) ≤ 16384 → stewardDenied s r.port i.val = false →
    outTaken s i.val n.outKind n.outIndex = false → slotShut (slotOf s i.val) = false →
    Does (.loopConfig r) s fun t =>
      let y := slotOf t i.val
      (wants → 16 ≤ free → y.repEn = true ∧ y.repLen = min asked free) ∧
      (wants → free < 16 → y.repEn = false) ∧ (¬ wants → y.repEn = false) ∧
      others + takes y ≤ 16384 ∧ (∀ j, j ≠ i.val → slotOf t j = slotOf s j) ∧
      ∃ v, sget (t.win r.port).replies r.tag.toNat = some v ∧ v.status = 0 ∧
        bitOf (wd v.words 1) 21 = y.repEn ∧ fld (wd v.words 3) 0 13 = y.repLen

/-- Valves: a command's effect by the phase that it meets, its refusal, the profile opcode, a period boundary, the
ends of the phases with their dip, the coil faults and the zone supply (R347 to R355, R374).
The model's own choices in it: notes/assumptions/31. -/
def Obligations.Valves : Prop :=
  ∀ (ch : Fin 20) (r : Req) (s : State),
    let k := ch.val
    let c := valveOf s k
    let away := xvAway s.vlv k = true
    let still := ∀ j, j ≠ k → (valveOf s j).phase ≠ .waiting
    let onlyCh := fun (y : Valve) (t : State) => valveOf t k = y ∧ (∀ j, j ≠ k → valveOf t j = valveOf s j)
    let chOnly := fun t : State => t = { s with vlv := { s.vlv with ch := t.vlv.ch } }
    let dipped := fun (d : Option Nat) => match d with
      | none => c
      | some us => if c.dip = true then c else { c with dip := true, move := min us 65534 }
    let w := wd r.words 0
    let op := fld w 30 2
    let e := some (10 * clampN 1 60000 (fld w 0 16))
    let w1 := mkW [(30, op), (16, k), (0, clampN 1 60000 (fld w 0 16))]
    let free := (valveSlot s k).isSome = false ∧ forcedStands s = false
    let done := fun (y : Valve) => Ends 0x220 (.valveCmd r) r 0 [w1, 0, regVlvStat (onValve k (fun _ => y) s) k] s fun t =>
      onlyCh y t ∧ t = { s with port := t.port, vlv := { s.vlv with ch := t.vlv.ch } }
    (Ready 0x220 r s → min 19 (fld w 16 5) = k →
      (op = 2 → k < 16 → Ends 0x220 (.valveCmd r) r 0 [w1, regProfZ (putProfZ (wd r.words 1) s.vlv), regVlvStat s k] s
        fun t => t = { s with port := t.port, vlv := putProfZ (wd r.words 1) s.vlv }) ∧
      (op = 2 → 16 ≤ k →
        Ends 0x220 (.valveCmd r) r 0 [w1, regXvCtl (putXv (wd r.words 1) (xvOf s k)), regVlvStat s k] s fun t =>
          xvOf t k = putXv (wd r.words 1) (xvOf s k) ∧ (∀ j, 16 ≤ j → j ≠ k → xvOf t j = xvOf s j) ∧
          t = { s with port := t.port, vlv := { s.vlv with xv := t.vlv.xv } }) ∧
      (op = 3 → Answered 0x220 (.valveCmd r) r 0 [w1, 0, regVlvStat s k] s) ∧
      (op < 2 → ¬ free → Answered 0x220 (.valveCmd r) r 6 [w1, 0, regVlvStat s k] s) ∧
      (op = 0 → free → c.phase = .closed → k < 16 → s.vlv.supplyLow = false → busyZones s < 4 →
        done { c with phase := .boost, endAt := e, pend := none, dip := false }) ∧
      (op = 0 → free → c.phase = .closed → k < 16 → s.vlv.supplyLow = false → 4 ≤ busyZones s →
        done { c with phase := .waiting, endAt := e, pend := none }) ∧
      (op = 0 → free → c.phase = .closed → k < 16 → s.vlv.supplyLow = true →
        done { c with phase := .supplyWait, endAt := e, pend := none }) ∧
      (op = 0 → free → c.phase = .closed → 16 ≤ k →
        done { c with phase := if (xvOf s k).peakHold = true then .peak else .hold, endAt := e, pend := none, dip := false }) ∧
      (op = 0 → free → c.phase = .hold ∨ c.phase = .supplyWait → done { c with endAt := laterEnd c.endAt e }) ∧
      (op = 0 → free → c.phase = .waiting ∨ c.phase = .boost ∨ c.phase = .peak →
        done { c with pend := some ((c.pend.map fun p => laterEnd p e).getD e) }) ∧
      (op = 1 → free → c.phase = .closed → Answered 0x220 (.valveCmd r) r 0 [w1, 0, regVlvStat s k] s) ∧
      (op = 1 → free → c.phase ≠ .closed → still → done { c with phase := .closed, endAt := some 0, pend := none })) ∧
    (s.isl.on = true →
      (atBoundary s k = false ∨ inValveTest s k = true → exec (.valvePeriodBoundary ch) s = .next s) ∧
      (atBoundary s k = true → inValveTest s k = false →
        (valveSlot s k).map (boundaryTicks s k) = none ∨ (valveSlot s k).map (boundaryTicks s k) = some 0 →
        Does (.valvePeriodBoundary ch) s fun t =>
          onlyCh { endOpenHold c with period := s.vlv.tickPeriod } t ∧ chOnly t) ∧
      (∀ x d, atBoundary s k = true → inValveTest s k = false → valveSlot s k = some x → boundaryTicks s k x = d → 0 < d →
        (c.phase = .closed → k < 16 → s.vlv.supplyLow = false → busyZones s < 4 →
          Does (.valvePeriodBoundary ch) s fun t => chOnly t ∧
            onlyCh { c with phase := .boost, endAt := some d, pend := none, dip := false, period := s.vlv.tickPeriod } t) ∧
        (c.phase = .hold → barred s k = false → Does (.valvePeriodBoundary ch) s fun t => chOnly t ∧
            onlyCh { endOpenHold c with endAt := laterEnd (endOpenHold c).endAt (some d), period := s.vlv.tickPeriod } t)) ∧
      (¬ (c.phase = .hold ∧ c.endAt = some 0) → exec (.valveCommandEnd ch) s = .next s) ∧
      (c.phase = .hold → c.endAt = some 0 → still → Does (.valveCommandEnd ch) s fun t => chOnly t ∧
        onlyCh { c with phase := .closed, pend := none } t) ∧
      (∀ (d : Option Nat),
        (c.phase ≠ .boost → ∀ p, exec (.boostEnd ch p d) s = .next s) ∧
        (c.phase = .boost → Does (.boostEnd ch true d) s fun t => chOnly t ∧ onlyCh { dipped d with phase := .peak } t) ∧
        (c.phase = .boost → Does (.boostEnd ch false d) s fun t => onlyCh { dipped d with phase := .peak, fault := 1 } t ∧
          Logged Ev.valveCoilFault [(1, k), (1, 1)] s t ∧
          t = { s with vlv := { s.vlv with ch := t.vlv.ch, event := s.vlv.event ||| 0x40000000 }, log := t.log }) ∧
        (c.phase ≠ .peak → exec (.peakEnd ch d) s = .next s) ∧
        (let held := fun y : Valve =>
           { y with phase := .hold, pend := none, endAt := (c.pend.map fun p => laterEnd c.endAt p).getD c.endAt }
         (c.phase = .peak → still → (dipped d).dip = true → ¬ away → (held c).endAt ≠ some 0 →
           Does (.peakEnd ch d) s fun t => chOnly t ∧ onlyCh (held (dipped d)) t) ∧
         (c.phase = .peak → still → away → (held c).endAt ≠ some 0 →
           Does (.peakEnd ch d) s fun t => chOnly t ∧ onlyCh (held c) t) ∧
         (c.phase = .peak → still → (dipped d).dip = false → ¬ away → (held c).endAt ≠ some 0 →
           Does (.peakEnd ch d) s fun t =>
             onlyCh (held { c with move := 0xFFFF, stuckCnt := min 0xFF (c.stuckCnt + 1) }) t ∧
             Logged Ev.valveStuck [(1, k)] s t ∧
             t = { s with vlv := { s.vlv with ch := t.vlv.ch, event := setBit s.vlv.event k }, log := t.log }))) ∧
      (let off := fun (code : Nat) (t : State) =>
         onlyCh { c with phase := .closed, endAt := some 0, pend := none, fault := code } t ∧
         Logged Ev.valveCoilFault [(1, k), (1, code)] s t ∧
         t = { s with vlv := { s.vlv with ch := t.vlv.ch, event := s.vlv.event ||| 0x40000000 }, log := t.log }
       (energised c = false ∨ away → exec (.coilOvercurrent ch) s = .next s) ∧
       (energised c = true → ¬ away → still → Does (.coilOvercurrent ch) s (off 2)) ∧
       (c.phase ≠ .hold ∨ away → exec (.coilOpenLoad ch) s = .next s) ∧
       (c.phase = .hold → ¬ away → still → Does (.coilOpenLoad ch) s (off 3))) ∧
      (s.vlv.supplyLow = true → exec .valveSupplyLow s = .next s) ∧
      (s.vlv.supplyLow = false → Does .valveSupplyLow s fun t =>
        t.vlv.supplyLow = true ∧ t.vlv.event = s.vlv.event ||| 0x80000000 ∧
        valveOf t k = (if k < 16 then supplyLoss c else c) ∧ Logged Ev.valveSupplyLost [] s t ∧
        t = { s with vlv := { s.vlv with ch := t.vlv.ch, event := t.vlv.event, supplyLow := true }, log := t.log }) ∧
      (s.vlv.supplyLow = false → exec .valveSupplyRestored s = .next s) ∧
      (s.vlv.supplyLow = true → Does .valveSupplyRestored s fun t =>
        (16 ≤ k ∨ c.phase ≠ .supplyWait → valveOf t k = c) ∧
        (k < 16 → c.phase = .supplyWait → c.endAt = some 0 → valveOf t k = { c with phase := .closed }) ∧
        (k < 16 → c.phase = .supplyWait → c.endAt ≠ some 0 →
          valveOf t k = { c with phase := .boost, dip := false } ∨ valveOf t k = { c with phase := .waiting }) ∧
        t = { s with vlv := { s.vlv with ch := t.vlv.ch, supplyLow := false } }))

/-- Pumps, tachometers and pins: the duty that a slot, a master or a forced command gives, the speed, a stall, and the
two opcodes (R356 to R363, R374; notes/assumptions/32 for a pin's LEVEL). -/
def Obligations.PumpsAndPins : Prop :=
  ∀ (n : Fin 4) (m : Master) (duty : BitVec 10) (cycles : Nat) (r : Req) (s : State),
    let p := vget s.vlv.pwm n.val {}
    let h := vget s.vlv.tach n.val {}
    let primary := pinFn s.vlv (4 + n.val) = 0
    let pwmIs := fun (y : Pwm) (t : State) =>
      vget t.vlv.pwm n.val {} = y ∧ ∀ j, j ≠ n.val → vget t.vlv.pwm j {} = vget s.vlv.pwm j {}
    let tachIs := fun (y : Tach) (t : State) =>
      vget t.vlv.tach n.val {} = y ∧ ∀ j, j ≠ n.val → vget t.vlv.tach j {} = vget s.vlv.tach j {}
    let w := wd r.words 0
    let md := min 512 (fld (wd r.words 1) 0 10)
    let set := bitOf w 15
    let p1 := { p with minDuty := md, stallEn := bitOf w 11, stopEn := bitOf w 10, duty := if set = true then fld w 0 10 else p.duty }
    let ws := fun q => [w &&& 0x00038FFF#32, BitVec.ofNat 32 md, regPwm q, regTach s.vlv n.val]
    let pin := min 11 (fld w 16 4)
    let f := BitVec.ofNat 2 (fld w 0 2)
    let pw := mkW [(16, pin), (8, bn (bitOf w 8)), (0, fld w 0 2)]
    let v1 := { s.vlv with
      pinFunc := vmod s.vlv.pinFunc pin fun _ => f
      pinOut := if bitOf w 8 = true then s.vlv.pinOut ||| (1#12 <<< pin) else s.vlv.pinOut &&& ~~~(1#12 <<< pin) }
    (Ready 0x221 r s → fld w 16 2 = n.val → set = true → (slotFor s 3 n.val).isSome = true →
      Answered 0x221 (.pwmSet r) r 6 (ws p) s) ∧
    (Ready 0x221 r s → fld w 16 2 = n.val → set = false ∨ slotFor s 3 n.val = none →
      Ends 0x221 (.pwmSet r) r 0 (ws p1) s fun t => pwmIs p1 t ∧
        t = { s with port := t.port, vlv := { s.vlv with pwm := t.vlv.pwm } }) ∧
    (Ready 0x222 r s → forcedStands s = true →
      Answered 0x222 (.pinFuncSet r) r 6 [pw, regPinFunc s.vlv, regPinIo s.vlv] s) ∧
    (Ready 0x222 r s → forcedStands s = false →
      Ends 0x222 (.pinFuncSet r) r 0 [pw, regPinFunc v1, regPinIo v1] s fun t => t = { s with port := t.port, vlv := v1 }) ∧
    (s.isl.on = true →
      (forcedStands s = true → Does (.pwmReload n) s fun t => pwmIs { p with active := 1023 } t ∧
        pwmHigh (vget t.vlv.pwm n.val {}) = 2000 ∧
        t = { s with vlv := { s.vlv with pwm := t.vlv.pwm } }) ∧
      (forcedStands s = false → Does (.pwmReload n) s fun t =>
        pwmIs { p with active := if p.minDuty ≤ p.duty then p.duty else if p.duty = 0 ∧ p.stopEn = true then 0 else p.minDuty } t ∧
        t = { s with vlv := { s.vlv with pwm := t.vlv.pwm } }) ∧
      (masterReach s m = false ∨ (slotFor s 3 n.val).isSome = true → exec (.pwmDutyWrite m n duty) s = .next s) ∧
      (masterReach s m = true → slotFor s 3 n.val = none → Does (.pwmDutyWrite m n duty) s fun t =>
        pwmIs { p with duty := duty.toNat } t ∧ t = { s with vlv := { s.vlv with pwm := t.vlv.pwm } }) ∧
      (¬ primary → exec (.tachEdge n cycles) s = .next s ∧ exec (.tachTimeout n) s = .next s ∧ exec (.pumpStall n) s = .next s) ∧
      (primary → h.last = none → Does (.tachEdge n cycles) s fun t =>
        tachIs { rpm := h.rpm, last := some cycles, stalled := false } t ∧
        t = { s with vlv := { s.vlv with tach := t.vlv.tach } }) ∧
      (∀ q, primary → h.last = some q → 0 < q + cycles → Does (.tachEdge n cycles) s fun t =>
        tachIs { rpm := min 65535 (3000000000 / (q + cycles)), last := some cycles, stalled := false } t ∧
        t = { s with vlv := { s.vlv with tach := t.vlv.tach } }) ∧
      (primary → Does (.tachTimeout n) s fun t => tachIs { h with rpm := 0 } t ∧
        t = { s with vlv := { s.vlv with tach := t.vlv.tach } }) ∧
      (p.stallEn = false ∨ p.active = 0 ∨ h.stalled = true → exec (.pumpStall n) s = .next s) ∧
      (primary → p.stallEn = true → 0 < p.active → h.stalled = false → Does (.pumpStall n) s fun t =>
        tachIs { h with stalled := true } t ∧ t.vlv.stall = s.vlv.stall ||| (1#4 <<< n.val) ∧
        Logged Ev.pumpStall [(1, n.val)] s t ∧
        t = { s with vlv := { s.vlv with tach := t.vlv.tach, stall := t.vlv.stall }, log := t.log }))

/-- Welt: a leak trip's latch, source, event bit, levels, record, rails off, health bit and the queueing of an idle
LEAK object on channel A; sense faults; the clears and their refusal; the flow balance; the valve test's start, refusal,
first sample and result, each channel that is not forced back in its prior state (R376, R377, R381, R383, R384, R386,
R395). The model's own choices in it: notes/assumptions/10 and 169. -/
def Obligations.Welt : Prop :=
  ∀ (r : Req) (s : State),
    let w := wd r.words
    let arm : BitVec 6 := (w 0).setWidth 6
    let th := clampN 0x40 0x4000 (fld (w 2) 0 16)
    let armed := { s.welt with
      locate := min 2 (fld (w 0) 16 2), flowAction := bitOf (w 0) 8, arm := arm, flow := []
      winS := clampN 1 60 (fld (w 1) 24 8), imbMl := clampN 10 5000 (fld (w 1) 0 16)
      thresh := s.welt.thresh.mapFinIdx fun i x _ => if bitOf (w 2) (16 + i) = true then th else x }
    let disarmed := logDisarm s.welt.arm arm s
    let ends := fun (lk tk : Nat) (y : WeltBlk) (l : LogBlk) =>
      Ends 0x231 (.weltArm r) r 0 [regWeltCtl y ||| mkW [(31, lk), (30, tk)], regWeltFlow y, mkW [(16, fld (w 2) 16 6), (0, th)]]
        s fun t => t = { s with port := t.port, welt := y, log := l }
    let noTherm := bitOf (w 0) 30 = false ∨ s.welt.thermTrip = false ∨ thermOver s = false
    let clears := bitOf (w 0) 31 = true ∧ s.welt.leakTrip = true
    let a := fld (w 0) 18 2
    let b := fld (w 0) 16 2
    let tws := [mkW [(18, a), (16, b), (0, clampN 5 60 (fld (w 0) 0 8))], BitVec.ofNat 32 (clampN 1 1000 (fld (w 1) 0 16))]
    let barred := inS0S1 s = true ∨ s.welt.leakTrip = true ∨ forcedStands s = true ∨ a = b ∨ xvShut s a = true ∨ xvShut s b = true
    let driven := fun (k : Nat) =>
      let c := valveOf s k
      if (xvOf s k).no = true then
        { c with phase := if (xvOf s k).peakHold = true then .peak else .hold, endAt := none, pend := none, dip := false }
      else { c with phase := VPhase.closed, endAt := some 0, pend := none }
    (Ready 0x231 r s → ¬ clears → noTherm → ends 0 0 armed disarmed.log) ∧
    (Ready 0x231 r s → clears → noTherm → leakDry s = true →
      ends 1 0 { armed with leakTrip := false, tripSrc := 0, killLatch := false } (raise Ev.leakCleared [] disarmed).log) ∧
    (Ready 0x231 r s → clears → noTherm → leakDry s = false →
      ends 0 0 { armed with event := s.welt.event ||| 0x20 } disarmed.log) ∧
    (Ready 0x231 r s → ¬ clears → ¬ noTherm → ends 0 1 { armed with thermTrip := false, thermLatch := false } disarmed.log) ∧
    (Ready 0x905 r s → barred → Answered 0x905 (.valveTest r) r 6 tws s) ∧
    (Ready 0x905 r s → ¬ barred → s.welt.test.isSome = true → Answered 0x905 (.valveTest r) r 2 tws s) ∧
    (Ready 0x905 r s → ¬ barred → s.welt.test = none → Ends 0x905 (.valveTest r) r 0 tws s fun t =>
      t.welt.test.map (fun x => (x.xvIn, x.xvOut, x.priorIn, x.priorOut)) =
        some (a, b, valveOf s (16 + a), valveOf s (16 + b)) ∧
      valveOf t (16 + a) = driven (16 + a) ∧ valveOf t (16 + b) = driven (16 + b) ∧
      (∀ j, j ≠ 16 + a → j ≠ 16 + b → valveOf t j = valveOf s j) ∧
      t = { s with port := t.port, vlv := { s.vlv with ch := t.vlv.ch }
                   welt := { s.welt with test := t.welt.test, flow := [], episode := false } }) ∧
    (s.isl.on = true →
      (∀ (i : Fin 6) (lv : List Nat),
        let level := s.welt.level.mapFinIdx fun j x _ => lv.getD j x
        (s.welt.arm.getLsbD i.val = false → exec (.leakTrip i lv) s = .next { s with welt := { s.welt with level := level } }) ∧
        (s.welt.arm.getLsbD i.val = true → s.welt.leakTrip = true → exec (.leakTrip i lv) s =
          .next { s with welt := { s.welt with level := level, dryFrom := some s.log.elapsed } }) ∧
        (s.welt.arm.getLsbD i.val = true → s.welt.leakTrip = false → Does (.leakTrip i lv) s fun t =>
          t.welt.leakTrip = true ∧ t.welt.killLatch = true ∧ t.welt.tripSrc = i.val + 1 ∧ t.welt.event.getLsbD 0 = true ∧
          t.welt.test = none ∧ t.welt.level = level ∧ t.pwr.en = 0 ∧ t.pwr.target = .s3 ∧
          t.health.state.getLsbD 7 = true ∧
          ((objOf s false 0).valid = true → (objOf s false 0).send = true → (objOf s false 0).tx ≠ .onBus →
            (objOf t false 0).tx = .pending) ∧
          ∃ x ∈ t.log.islQueue, x.code = Ev.leakTrip ∧ x.elapsed = s.log.elapsed ∧
            x.arg = mkArg 6 ((1, i.val + 1) :: (List.range 6).map fun j => (2, vget level j 0))) ∧
        (s.welt.senseFault.getLsbD i.val = true → exec (.weltSenseFault i) s = .next s) ∧
        (s.welt.senseFault.getLsbD i.val = false → Does (.weltSenseFault i) s fun t =>
          t.welt = { s.welt with senseFault := s.welt.senseFault ||| (1#6 <<< i.val), event := s.welt.event ||| 4 } ∧
          Logged Ev.weltSenseFault [(1, i.val)] s t ∧ t = { s with welt := t.welt, log := t.log }) ∧
        (exec (.weltSenseRecovered i) s =
          .next { s with welt := { s.welt with senseFault := s.welt.senseFault &&& ~~~(1#6 <<< i.val) } })) ∧
      (∀ dry : Bool,
        (s.welt.leakTrip = false → exec (.clearLeak dry) s = .next s) ∧
        (s.welt.leakTrip = true → dry = true → leakDry s = true → Does (.clearLeak dry) s fun t =>
          Logged Ev.leakCleared [] s t ∧
          t = { s with welt := { s.welt with leakTrip := false, tripSrc := 0, killLatch := false }, log := t.log }) ∧
        (s.welt.leakTrip = true → dry = false ∨ leakDry s = false → exec (.clearLeak dry) s =
          .next { s with welt := { s.welt with event := s.welt.event ||| 0x20 } })) ∧
      (s.welt.thermTrip = true → thermOver s = true → exec .clearTherm s =
        .next { s with welt := { s.welt with thermTrip := false, thermLatch := false } }) ∧
      (s.welt.thermTrip = false ∨ thermOver s = false → exec .clearTherm s = .next s) ∧
      (∀ x y : Nat,
        let l := ((x, y) :: s.welt.flow).take s.welt.winS
        let kept := { s.welt with flow := l }
        (flowSuspended s = true → exec (.flowBalanceEvaluation x y) s =
          .next { s with welt := { s.welt with flow := [], episode := false, suspendS := s.welt.suspendS - 1 } }) ∧
        (flowSuspended s = false → l.length < s.welt.winS → exec (.flowBalanceEvaluation x y) s = .next { s with welt := kept }) ∧
        (flowSuspended s = false → l.length = s.welt.winS → flowDiff l ≤ (s.welt.imbMl : Int) →
          exec (.flowBalanceEvaluation x y) s = .next { s with welt := { kept with episode := false } }) ∧
        (flowSuspended s = false → l.length = s.welt.winS → (s.welt.imbMl : Int) < flowDiff l → s.welt.flowAction = false →
          s.welt.episode = true → exec (.flowBalanceEvaluation x y) s = .next { s with welt := kept }) ∧
        (flowSuspended s = false → l.length = s.welt.winS → (s.welt.imbMl : Int) < flowDiff l → s.welt.flowAction = false →
          s.welt.episode = false → Does (.flowBalanceEvaluation x y) s fun t => Logged Ev.flowImbalance [] s t ∧
            t = { s with welt := { kept with episode := true, event := s.welt.event ||| 8 }, log := t.log }) ∧
        (flowSuspended s = false → l.length = s.welt.winS → (s.welt.imbMl : Int) < flowDiff l → s.welt.flowAction = true →
          s.welt.leakTrip = false → Does (.flowBalanceEvaluation x y) s fun t =>
            t.welt.leakTrip = true ∧ t.welt.killLatch = true ∧ t.welt.tripSrc = 7 ∧ t.pwr.en = 0)) ∧
      (∀ (p : BitVec 12),
        let level := vmod s.welt.level 6 fun _ => p.toNat
        let restored := fun c q : Valve =>
          if c.forced = true then c else { c with phase := q.phase, endAt := q.endAt, pend := q.pend }
        let done := fun (res : Nat) (x : VTest) (t : State) =>
          t.welt.test = none ∧ t.welt.result = res ∧ t.welt.suspendS = s.welt.winS ∧ t.welt.level = level ∧
          (x.xvIn < 4 → x.xvOut < 4 → x.xvIn ≠ x.xvOut →
            valveOf t (16 + x.xvIn) = restored (valveOf s (16 + x.xvIn)) x.priorIn ∧
            valveOf t (16 + x.xvOut) = restored (valveOf s (16 + x.xvOut)) x.priorOut ∧
            ∀ j, j ≠ 16 + x.xvIn → j ≠ 16 + x.xvOut → valveOf t j = valveOf s j) ∧
          (t.welt.event = if res = 2 then s.welt.event ||| 0x10 else s.welt.event) ∧
          Logged Ev.valveTestResult [(1, res)] s t ∧ t = { s with vlv := { s.vlv with ch := t.vlv.ch }, welt := t.welt, log := t.log }
        (s.welt.test = none → exec (.valveTestStartSample p) s = .next s ∧ exec (.valveTestResult p) s = .next s) ∧
        (s.welt.test.isSome = true → 200 ≤ p.toNat → exec (.valveTestStartSample p) s =
          .next { s with welt := { s.welt with pStart := p, level := level } }) ∧
        (∀ x, s.welt.test = some x → p.toNat < 200 → Does (.valveTestStartSample p) s fun t => done 3 x t ∧ t.welt.pStart = p) ∧
        (∀ x, s.welt.test = some x → s.welt.pStart.toNat ≤ p.toNat + x.limit →
          Does (.valveTestResult p) s fun t => done 1 x t ∧ t.welt.pEnd = p) ∧
        (∀ x, s.welt.test = some x → p.toNat + x.limit < s.welt.pStart.toNat →
          Does (.valveTestResult p) s fun t => done 2 x t ∧ t.welt.pEnd = p)))

/-! ## The row bus -/

/-- Frames on a channel: a frame received into its object, late, repeated or without an object; a transmission's
start, success and failed attempts; the error counters' states; integration and recovery; ROW_CONFIG (R396, R398, R400,
R405 to R411, R413, R420, R433). The counters' steps are the family's (notes/assumptions/47). -/
def Obligations.RowFrames : Prop :=
  ∀ (b : Bool) (f : CanFrame) (r : Req) (s : State),
    let c := rowCh s b
    let put := fun (y : RowCh) (t : State) => rowCh t b = y ∧ rowCh t (!b) = rowCh s (!b)
    let rowOnly := fun t : State => t = { s with row := t.row }
    let calm := c.leaving = false ∧ c.st = .active
    let one := fun (m : Nat) (y : Obj) (t : State) =>
      objOf t b m = y ∧ (∀ j, j ≠ m → objOf t b j = objOf s b j) ∧ rowCh t (!b) = rowCh s (!b)
    let w := wd r.words
    let en := bitOf (w 0) 28
    let v := clampN 1 2 (fld (w 0) 26 2)
    let cw := mkW [(29, bn b), (28, bn en), (26, v)]
    let set := { c with sendVer := v, en := true }
    let timed := { fitTiming (putDbt (w 2) (putNbt (w 1) { c with sendVer := v })) with en := true }
    let good := if f.inBand = true then min 8 (c.goodFrames + 1) else 0
    let heard := { c with
      lastFrame := some s.log.elapsed, goodFrames := good, locked := c.locked || decide (8 ≤ good)
      event := if 8 ≤ good ∧ c.locked = false then c.event ||| 1 else c.event }
    let plain := f.extended = false ∧ f.ident ≠ 0x080 ∧ ¬ (0x100 ≤ f.ident ∧ f.ident < 0x140) ∧ ¬ (0x180 ≤ f.ident ∧ f.ident < 0x200)
    (s.isl.on = true →
      (rowLive s b = false → exec (.rowFrameReceive b f) s = .next s) ∧
      (rowLive s b = true → c.recCnt = 0 → f.extended = true ∨ (plain ∧ recvObj s b f.ident = none) →
        Does (.rowFrameReceive b f) s fun t =>
          put { heard with unmatched := min 0xFFFFFFFF (c.unmatched + 1) } t ∧ rowOnly t) ∧
      (∀ m, rowLive s b = true → c.recCnt = 0 → plain → recvObj s b f.ident = some m →
        let o := objOf s b m
        let area := frameArea s.free f.data
        let q := (area.getD o.seqPos 0).toNat
        let taken := { o with lastDlc := f.dlc, ts := f.sof % 2 ^ 32, stale := false, seen := true
                              seq := if o.seqChk = true then q else o.seq }
        (seqJudge o q = .late → Does (.rowFrameReceive b f) s fun t =>
          put { heard with event := heard.event ||| 0x80, lateDrop := min 0xFFFFFFFF (c.lateDrop + 1) } t ∧
          t = { s with row := t.row, free := s.free + 1 }) ∧
        (seqJudge o q = .duplicate → Does (.rowFrameReceive b f) s fun t => put heard t ∧
          t = { s with row := t.row, free := s.free + 1 }) ∧
        (seqJudge o q = .accept → o.owned = false → Does (.rowFrameReceive b f) s fun t =>
          one m { taken with data := area, new := true, lost := o.lost || o.new } t ∧
          (rowCh t b).event = (if o.new = true then heard.event ||| 0x40 else heard.event) ∧
          t = { s with row := t.row, free := s.free + 1 }) ∧
        (seqJudge o q = .accept → o.owned = true → Does (.rowFrameReceive b f) s fun t =>
          one m { taken with shadow := some area, lost := o.lost || o.shadow.isSome } t ∧
          (rowCh t b).event = (if o.shadow.isSome = true then heard.event ||| 0x40 else heard.event) ∧
          t = { s with row := t.row, free := s.free + 1 })) ∧
      (∀ sof : Nat,
        (∀ won, rowLive s b = false ∨ listenOnly s b = true ∨ (onBusObj c).isSome = true ∨ won = false ∨ nextToSend s b = none →
          exec (.transmissionStart b sof won) s = .next s) ∧
        (∀ m, rowLive s b = true → listenOnly s b = false → onBusObj c = none → nextToSend s b = some m →
          Does (.transmissionStart b sof true) s fun t =>
            one m { objOf s b m with tx := .onBus, ts := sof % 2 ^ 32 } t ∧ rowOnly t)) ∧
      (onBusObj c = none → ∀ d x, exec (.rowFrameSent b d) s = .next s ∧ exec (.txAttemptFail b x) s = .next s) ∧
      (∀ m, onBusObj c = some m →
        let o := objOf s b m
        (∀ d, calm → 3 ≤ m → c.recCnt ≤ 127 → c.tecCnt ≤ 128 → Does (.rowFrameSent b d) s fun t =>
          one m (afterInstance .sent { o with
            lastDlc := objDlc s b m, seq := if o.seqChk = true then (o.latched.getD o.seqPos 0).toNat else o.seq }) t ∧
          (rowCh t b).tdcv = min 127 d ∧ (rowCh t b).tecCnt = c.tecCnt - 1 ∧ (rowCh t b).st = .active ∧
          (rowCh t b).event = (if 127 < d + c.tdco then c.event ||| 0x100 else c.event) ∧ rowOnly t) ∧
        (∀ exempt, calm → c.recCnt ≤ 127 → c.tecCnt + 8 ≤ 127 →
          let counted := fun t : State => (rowCh t b).tecCnt = (if exempt = true then c.tecCnt else c.tecCnt + 8) ∧ (rowCh t b).st = .active
          (failEnd o = .again → Does (.txAttemptFail b exempt) s fun t => counted t ∧ rowOnly t ∧
            one m { o with tx := .pending, attempts := o.attempts + 1, latched := o.next.getD o.latched, next := none } t) ∧
          (failEnd o = .cancelled → Does (.txAttemptFail b exempt) s fun t => counted t ∧ rowOnly t ∧
            one m (afterInstance .cancelled { o with attempts := min 16 (o.attempts + 1) }) t) ∧
          (failEnd o = .expired → Does (.txAttemptFail b exempt) s fun t => counted t ∧ rowOnly t ∧
            (rowCh t b).event = c.event ||| 0x20 ∧
            one m (afterInstance .expired { o with attempts := min 16 (o.attempts + 1) }) t) ∧
          (failEnd o = .abandoned → o.abandonedAt = none → Does (.txAttemptFail b exempt) s fun t => counted t ∧
            (rowCh t b).event = c.event ||| 0x10 ∧ Logged Ev.rowAbandoned [] s t ∧
            one m (afterInstance .abandoned { o with attempts := min 16 (o.attempts + 1), abandonedAt := some s.log.elapsed }) t ∧
            t = { s with row := t.row, log := t.log })) ∧
        (calm → 247 < c.tecCnt → Does (.txAttemptFail b false) s fun t =>
          (rowCh t b).st = .busOff ∧ (rowCh t b).event.getLsbD 2 = true ∧
          t = { s with row := t.row, stew := t.stew, log := t.log })) ∧
      (∀ dom : Bool,
        let rc := min 255 (c.recCnt + if dom = true then 9 else 1)
        (rowLive s b = false → exec (.receiveError b dom) s = .next s) ∧
        (rowLive s b = true → listenOnly s b = true → Does (.receiveError b dom) s fun t =>
          put { c with goodFrames := 0 } t ∧ rowOnly t) ∧
        (rowLive s b = true → listenOnly s b = false → c.st = .active → rc ≤ 127 → c.tecCnt ≤ 127 →
          Does (.receiveError b dom) s fun t => put { c with goodFrames := 0, recCnt := rc } t ∧ rowOnly t) ∧
        (rowLive s b = true → listenOnly s b = false → c.st = .active → 127 < rc → c.tecCnt ≤ 255 →
          Does (.receiveError b dom) s fun t =>
            put { c with goodFrames := 0, recCnt := rc, st := .passive, event := c.event ||| 2 } t ∧
            Logged Ev.rowErrPassive [] s t ∧ t = { s with row := t.row, log := t.log })) ∧
      (c.st = .busOff → Does (.busOffRecovery b) s fun t =>
        put { c with st := .active, tecCnt := 0, recCnt := 0, event := c.event ||| 8 } t ∧
        Logged Ev.rowBusOn [] s t ∧ t = { s with row := t.row, log := t.log }) ∧
      (c.st ≠ .busOff → exec (.busOffRecovery b) s = .next s) ∧
      (xcvrWanted s b = true → c.st = .off → c.leaving = false → Does (.busIntegrationComplete b) s fun t =>
        put { c with xcvrOn := true, st := .active, tecCnt := 0, recCnt := 0 } t ∧ rowOnly t) ∧
      (xcvrWanted s b = false ∨ c.st ≠ .off ∨ c.leaving = true → exec (.busIntegrationComplete b) s = .next s)) ∧
    (Ready 0x240 r s → bitOf (w 0) 29 = b →
      (r.port = .host → b = false → en = false →
        Answered 0x240 (.rowConfig r) r 6 [cw, regRowNbt c, regRowDbt c] s) ∧
      (c.en = true → en = true → xcvrWanted s b = true → c.xcvrOn = true →
        Ends 0x240 (.rowConfig r) r 0 [cw, regRowNbt c, regRowDbt c] s fun t =>
          put { set with leaving := false } t ∧ t = { s with port := t.port, row := t.row }) ∧
      (c.en = false → en = true → b = false → c.xcvrOn = false →
        Ends 0x240 (.rowConfig r) r 0 [cw, regRowNbt timed, regRowDbt timed] s fun t =>
          put { timed with xcvrOn := true, st := .off, tecCnt := 0, recCnt := 0 } t ∧
          t = { s with port := t.port, row := t.row }) ∧
      (c.en = true → en = false → r.port ≠ .host ∨ b = true → (stewOf s b).grantHeld = false → c.xcvrOn = true →
        (∀ m, (objOf s b m).tx ≠ .pending ∧ (objOf s b m).tx ≠ .onBus) →
        Ends 0x240 (.rowConfig r) r 0 [cw, regRowNbt timed, regRowDbt timed] s fun t =>
          put { timed with en := false, xcvrOn := false, leaving := false, st := .off, tecCnt := 0, recCnt := 0 } t ∧
          t = { s with port := t.port, row := t.row }))

/-- Message objects by command, the hardware's own sends, and row time (R405, R407 to R409, R414, R416, R417, R421,
R455, R456, R468; notes/assumptions/45, 48, 49 and 52). -/
def Obligations.ObjectsAndRowTime : Prop :=
  ∀ (b : Bool) (m : Fin 128) (ms : Master) (f : CanFrame) (r : Req) (s : State),
    let c := rowCh s b
    let o := objOf s b m.val
    let one := fun (y : Obj) (t : State) =>
      objOf t b m.val = y ∧ (∀ j, j ≠ m.val → objOf t b j = objOf s b j) ∧ rowCh t (!b) = rowCh s (!b) ∧ t = { s with row := t.row }
    let mine := objWritable s ms m.val = true
    let now := { s.row with offset := s.row.offset + slewed s, slew := s.row.slew - slewed s, slewAt := s.log.elapsed }
    let w1 := wd r.words 0
    let w2 := wd r.words 1
    let d := sext 64 (ofInt 64 ((of64 w1 w2 : Int) - (rowTime s : Int)))
    let maySet := s.row.tsync = 0 ∨ s.row.tsync = 3 ∨ timeMaster s s.row.src = true
    let ep := if s.row.epoch = 0xFFFF then 1 else s.row.epoch + 1
    (s.isl.on = true →
      (o.tx = .pending → Does (.objectExpired b m) s fun t =>
        objOf t b m.val = { o with tx := .expired, next := none } ∧ (rowCh t b).event = c.event ||| 0x20 ∧
        (∀ j, j ≠ m.val → objOf t b j = objOf s b j) ∧ rowCh t (!b) = rowCh s (!b) ∧ t = { s with row := t.row }) ∧
      (o.tx = .onBus → o.cancelMark = false → Does (.objectExpired b m) s (one { o with expireMark := true })) ∧
      (o.tx = .onBus → o.cancelMark = true → exec (.objectExpired b m) s = .next s) ∧
      (o.tx ≠ .pending → o.tx ≠ .onBus → exec (.objectExpired b m) s = .next s) ∧
      (o.valid = true → o.send = false → 0 < o.window → Does (.objectStale b m) s (one { o with stale := true })) ∧
      (o.valid = false ∨ o.send = true ∨ o.window = 0 → Does (.objectStale b m) s (one o)) ∧
      (0 < o.period → s.isl.tick.toNat % o.period = o.phase → Does (.objectPeriodicQueue b m) s (one (queueOne o))) ∧
      (o.period = 0 ∨ s.isl.tick.toNat % o.period ≠ o.phase → exec (.objectPeriodicQueue b m) s = .next s) ∧
      (¬ mine → exec (.objReq ms b m) s = .next s ∧ exec (.objCancel ms b m) s = .next s ∧ exec (.objLock ms b m) s = .next s) ∧
      (mine → Does (.objReq ms b m) s (one (queueOne o))) ∧
      (mine → o.valid = true → o.send = true → o.seqChk = false → o.tx ≠ .pending → o.tx ≠ .onBus →
        Does (.objReq ms b m) s (one { o with latched := o.data, next := none, tx := .pending, attempts := 0, cancelMark := false
                                              expireMark := false })) ∧
      (mine → o.valid = true → o.send = true → o.seqChk = false → o.tx = .onBus →
        Does (.objReq ms b m) s (one { o with next := some o.data })) ∧
      (mine → o.valid = false ∨ o.send = false → Does (.objReq ms b m) s (one o)) ∧
      (mine → o.tx = .pending → Does (.objCancel ms b m) s (one { o with tx := .cancelled, next := none })) ∧
      (mine → o.tx = .onBus → o.expireMark = false → Does (.objCancel ms b m) s (one { o with cancelMark := true, next := none })) ∧
      (mine → (o.tx = .onBus ∧ o.expireMark = true) ∨ (o.tx ≠ .pending ∧ o.tx ≠ .onBus) →
        Does (.objCancel ms b m) s (one o)) ∧
      (mine → o.valid = true → o.send = false → Does (.objLock ms b m) s (one { o with owned := true })) ∧
      (mine → o.valid = false ∨ o.send = true → Does (.objLock ms b m) s (one o)) ∧
      (masterReach s ms = true → 4 ≤ m.val → o.shadow = none → Does (.objAck ms b m) s (one { o with owned := false, new := false })) ∧
      (∀ x, masterReach s ms = true → 4 ≤ m.val → o.shadow = some x →
        Does (.objAck ms b m) s (one { o with owned := false, new := true, data := x, shadow := none })) ∧
      (masterReach s ms = false ∨ m.val < 4 → exec (.objAck ms b m) s = .next s) ∧
      (s.welt.leakTrip = false → exec .leakRepeat s = .next s) ∧
      (s.welt.leakTrip = true → Does .leakRepeat s fun t =>
        objOf t false 0 = queueOne { objOf s false 0 with data := padTo 64 (leakBytes s false) } ∧
        (s.row.b.xcvrOn = false → t.row.b = s.row.b) ∧
        (s.row.b.xcvrOn = true → objOf t true 0 = queueOne { objOf s true 0 with data := padTo 64 (leakBytes s true) }) ∧
        (∀ x j, j ≠ 0 → objOf t x j = objOf s x j) ∧ t = { s with row := t.row }) ∧
      (s.isl.forced = false → exec .failsafeRepeat s = .next s) ∧
      (s.isl.forced = true → Does .failsafeRepeat s fun t =>
        objOf t false 1 = queueOne { objOf s false 1 with data := padTo 64 (failsafeBytes s false true) } ∧
        (s.row.b.xcvrOn = false → t.row.b = s.row.b) ∧
        (s.row.b.xcvrOn = true → objOf t true 1 = queueOne { objOf s true 1 with data := padTo 64 (failsafeBytes s true true) }) ∧
        (∀ x j, j ≠ 1 → objOf t x j = objOf s x j) ∧ t = { s with row := t.row }) ∧
      (timeMaster s b = false → exec (.refQueue b) s = .next s) ∧
      (timeMaster s b = true → Does (.refQueue b) s fun t =>
        objOf t b 2 = queueOne { objOf s b 2 with data := padTo 64 (refBytes s b) } ∧ (rowCh t b).cycle = (c.cycle + 1) % 64 ∧
        (∀ j, j ≠ 2 → objOf t b j = objOf s b j) ∧ rowCh t (!b) = rowCh s (!b) ∧ t = { s with row := t.row }) ∧
      (exec (.ref b f) s = exec (.rowFrameReceive b { f with ident := 0x080, extended := false }) s) ∧
      (rowLive s b = false → exec (.ref b f) s = .next s) ∧
      (rowLive s b = true → 8 ≤ f.data.length → disciplinedBy s b = true → Does (.ref b f) s fun t =>
        (rowCh t b).prevSof = some f.sof ∧ (rowCh t b).refEpoch = some (f.data.getD 1 0).toNat ∧ t.row.src = b ∧
        (c.prevSof = none → t.row.offset + slewed t = s.row.offset + slewed s ∧ t.row.epoch = s.row.epoch ∧
          t.row.tsync = s.row.tsync)) ∧
      (s.row.tsync = 0 → exec .rowTimeHoldover s = .next s) ∧
      (s.row.tsync ≠ 0 → exec .rowTimeHoldover s = .next { s with row := { now with tsync := 3, good := 0 } }) ∧
      (s.row.tsync = 3 → exec .rowTimeSlewEnd s = .next s) ∧
      (s.row.tsync ≠ 3 → exec .rowTimeSlewEnd s = .next { s with row := { s.row with
        offset := s.row.offset + s.row.slew, slew := 0, slewAt := s.log.elapsed, rate := 0
        tsync := if s.row.tsync = 2 then s.row.slewBack else s.row.tsync } }) ∧
      (masterReach s ms = false → ∀ x, exec (.timeLoRead ms x) s = .next s) ∧
      (masterReach s ms = true →
        (Does (.timeLoRead ms false) s fun t => t.port = { s.port with rdata := [BitVec.ofNat 32 s.log.elapsed], ended := .ok } ∧
          vget t.log.capElapsed ms.id 0 = hi32 s.log.elapsed ∧ (∀ j, j ≠ ms.id → vget t.log.capElapsed j 0 = vget s.log.capElapsed j 0) ∧
          t = { s with port := t.port, log := { s.log with capElapsed := t.log.capElapsed } }) ∧
        (Does (.timeLoRead ms true) s fun t => t.port = { s.port with rdata := [BitVec.ofNat 32 (rowTime s)], ended := .ok } ∧
          vget t.log.capRow ms.id 0 = hi32 (rowTime s) ∧ (∀ j, j ≠ ms.id → vget t.log.capRow j 0 = vget s.log.capRow j 0) ∧
          t = { s with port := t.port, log := { s.log with capRow := t.log.capRow } }))) ∧
    (Ready 0x603 r s → ¬ maySet → Answered 0x603 (.timeSet r) r 6 [w1, w2, BitVec.ofNat 32 s.row.epoch] s) ∧
    (Ready 0x603 r s → maySet → d.natAbs ≤ 1000 → s.row.epoch ≠ 0 →
      Ends 0x603 (.timeSet r) r 0 [w1, w2, BitVec.ofNat 32 s.row.epoch] s fun t => t = { s with
        port := t.port
        row := { now with slew := d, slewBack := if s.row.tsync = 2 then s.row.slewBack else s.row.tsync, tsync := 2
                          rate := if d = 0 then 0 else if d < 0 then -10000 else 10000 } }) ∧
    (Ready 0x603 r s → maySet → 1000 < d.natAbs ∨ s.row.epoch = 0 →
      Ends 0x603 (.timeSet r) r 0 [w1, w2, BitVec.ofNat 32 ep] s fun t =>
        Logged Ev.rowTimeStep [(6, ofInt 48 (satInt 48 d))] { s with row := t.row } t ∧ t = { s with
          port := t.port, log := t.log
          row := { now with offset := now.offset + d, epoch := ep, step := true, slew := 0, rate := 0, good := 0 } })

/-! ## Stewardship -/

/-- Referee and grants: a GRANT heard, of an older, the same or a newer TERM, for this package or for another, with the
slots, the flag and the record of a takeover and of a release; a new TERM and holder where the referee grants; the
messages that only change eligibility; the check for a latent fault; the conditions of REQUEST and of the referee's
role (R435, R437 to R439, R443). The model's own choices in it: notes/assumptions/50 and 168. -/
def Obligations.RefereeAndGrants : Prop :=
  ∀ (b : Bool) (g : StewMsg) (s : State), s.isl.on = true →
    let c := stewOf s b
    let me := rowNode s b
    let newer := termNewer g.term c.term || c.term == 0
    let stewRow := fun t : State => t = { s with stew := t.stew, row := t.row }
    let other := fun t : State => stewOf t (!b) = stewOf s (!b)
    let grants := fun (n : Nat) (t : State) => (stewOf t b).term = nextTerm c.term ∧ (stewOf t b).holder = n
    let bars := fun (n : Nat) => bar b n s
    let slots := if b = true then [28, 29, 30, 31] else [24, 25, 26, 27]
    let untested := ∀ x, s.ctl.test = some x → x.slot ∉ slots
    let sent := fun (x : StewMsg) (t : State) => ∀ m, ensureObj b (0x088 + x.type) true 8 (some 1) 0 s = (some m, s) →
      objOf t b m = queueOne { objOf s b m with data := padTo 64 ([BitVec.ofNat 8 (x.schema * 64), 0] ++ leBytes 2 x.term ++
        [BitVec.ofNat 8 x.holder, BitVec.ofNat 8 x.sender, BitVec.ofNat 8 x.reason, 0]) }
    (rowLive s b = false → exec (.grant b g) s = .next s ∧ exec (.request b g) s = .next s ∧
      exec (.release b g) s = .next s ∧ ∀ x f, exec (.failsafe b x f) s = .next s) ∧
    (rowLive s b = true → newer = false → g.term ≠ c.term → Does (.grant b g) s fun t =>
      (stewOf t b).term = c.term ∧ (stewOf t b).holder = c.holder ∧ (stewOf t b).grantHeld = c.grantHeld ∧
      (stewOf t b).referee = (c.referee && g.type != 0) ∧ other t ∧ stewRow t) ∧
    (rowLive s b = true → newer = false → g.term = c.term → g.holder ≠ me ∨ (c.grantHeld = true ∧ g.reason ≠ 5) →
      Does (.grant b g) s fun t => (stewOf t b).term = c.term ∧ (stewOf t b).holder = g.holder ∧
        (stewOf t b).grantHeld = c.grantHeld ∧ (stewOf t b).referee = (c.referee && g.type != 0) ∧ other t ∧ stewRow t) ∧
    (rowLive s b = true → newer = false → g.term = c.term → g.holder = me → c.grantHeld = true → g.reason = 5 →
      Does (.grant b g) s fun t => (stewOf t b).grantHeld = true ∧ t.stew.pushNo = s.stew.pushNo + 1 ∧ stewRow t) ∧
    (rowLive s b = true → newer = true → g.holder ≠ me → c.grantHeld = false → Does (.grant b g) s fun t =>
      (stewOf t b).term = g.term ∧ (stewOf t b).holder = g.holder ∧ (stewOf t b).grantHeld = false ∧
      (stewOf t b).referee = false ∧ other t ∧ stewRow t) ∧
    (rowLive s b = true → newer = true → g.holder ≠ me → c.grantHeld = true → untested → b = true ∨ s.stew.b.grantHeld = false →
      Does (.grant b g) s fun t =>
      (stewOf t b).term = g.term ∧ (stewOf t b).holder = g.holder ∧ (stewOf t b).grantHeld = false ∧
      timeMaster t b = false ∧ t.health.state.getLsbD (if b = true then 2 else 3) = false ∧
      (∀ i, i ∈ slots → slotOf t i = { slotOf s i with steward := false, mode := .openHold, pendMode := none, closing := false }) ∧
      Logged Ev.stewardRelease [] s t ∧
      t = { s with stew := t.stew, row := t.row, ctl := { s.ctl with slots := t.ctl.slots }, health := t.health
                   port := t.port, pwr := t.pwr, log := t.log }) ∧
    (rowLive s b = true → newer = true → c.grantHeld = true ∧ g.holder ≠ me ∨ c.grantHeld = false ∧ g.holder = me ∧ mayHold s b = true →
      ¬ untested → Does (.grant b g) s fun t =>
        (stewOf t b).grantHeld = (!c.grantHeld) ∧ t.ctl.test = none ∧ t.ctl.event.getLsbD 1 = true) ∧
    (rowLive s b = true → newer = true → g.holder = me → c.grantHeld = false → mayHold s b = true → untested →
      Does (.grant b g) s fun t =>
      (stewOf t b).term = g.term ∧ (stewOf t b).holder = me ∧ (stewOf t b).grantHeld = true ∧ (stewOf t b).referee = false ∧
      timeMaster t b = true ∧ t.health.state.getLsbD (if b = true then 2 else 3) = true ∧
      (∀ i, i ∈ slots → (slotOf t i).steward = true ∧ (slotOf t i).mode = .openHold) ∧
      (∀ l, l ∈ stewLoops b → (slotOf t l.1).pendMode = some .closed ∧ (slotOf t l.1).sign = l.2.2.2) ∧
      Logged Ev.stewardTakeover [] s t ∧
      t = { s with stew := t.stew, row := t.row, ctl := { s.ctl with slots := t.ctl.slots }, health := t.health
                   port := t.port, pwr := t.pwr, log := t.log }) ∧
    (let first := (List.range 4).find? fun n => n == g.sender || stewPresent s b n
     let asked := rowLive s b = true ∧ c.referee = true ∧ c.holder ≠ 0x3F ∧ c.holder ≠ g.sender ∧ first = some g.sender ∧ stewEligible s b g.sender = true
     (¬ asked → exec (.request b g) s = .next s) ∧
     (asked → Does (.request b g) s fun t => (stewOf t b).takeback = some g.sender ∧ (stewOf t b).holder = c.holder ∧
       (stewOf t b).term = c.term ∧ stewRow t ∧
       sent { type := 1, schema := grantSchema s b, term := c.term, holder := c.holder, sender := me, reason := 5 } t)) ∧
    (rowLive s b = true → c.referee = false ∨ c.holder ≠ g.sender → exec (.release b g) s =
      .next (if g.reason = 3 ∨ g.reason = 4 then bars g.sender else s)) ∧
    (∀ n, rowLive s b = true → c.referee = true → c.holder = g.sender → g.reason = 6 → c.takeback = some n → Does (.release b g) s (grants n)) ∧
    (∀ n, rowLive s b = true → c.referee = true → c.holder = g.sender → g.reason = 3 ∨ g.reason = 4 → standbyOf (bars g.sender) b = some n →
      Does (.release b g) s (grants n)) ∧
    (∀ n, rowLive s b = true → c.referee = true → c.holder = g.sender → g.reason ≠ 3 → g.reason ≠ 4 → g.reason ≠ 6 ∨ c.takeback = none →
      standbyOf s b = some n → Does (.release b g) s (grants n)) ∧
    (exec (.taken b g) s = .next s) ∧
    (∀ x : Fin 64,
      (exec (.failsafe b x false) s = .next s) ∧
      (rowLive s b = true → c.referee = false ∨ c.holder ≠ x.val → exec (.failsafe b x true) s = .next (bars x.val)) ∧
      (∀ n, rowLive s b = true → c.referee = true → c.holder = x.val → standbyOf (bars x.val) b = some n → Does (.failsafe b x true) s (grants n)) ∧
      (Does (.candidateEligible b x) s fun t => (stewOf t b).ineligible = c.ineligible.filter (fun n => n != x.val) ∧ other t ∧
        t = { s with stew := t.stew } ∧ ∀ n, n ≠ x.val → stewEligible t b n = stewEligible s b n)) ∧
    (c.referee = false ∨ c.holder = 0x3F → exec (.heartbeatLost b) s = .next s) ∧
    (∀ n, c.referee = true → c.holder ≠ 0x3F → standbyOf s b = some n → Does (.heartbeatLost b) s (grants n)) ∧
    (c.referee = true → c.holder ≠ 0x3F → standbyOf s b = none → Does (.heartbeatLost b) s fun t =>
      stewOf t b = { c with takeback := none } ∧ other t ∧ t = { s with stew := t.stew }) ∧
    (refereeNamed s b = true → Does (.refereeStart b) s fun t => stewOf t b = { c with referee := true } ∧ other t ∧
      t = { s with stew := t.stew }) ∧
    (refereeNamed s b = false → exec (.refereeStart b) s = .next s) ∧
    (∀ n, c.referee = true → c.holder = 0x3F → standbyOf s b = some n → Does (.initialGrant b) s (grants n)) ∧
    (c.referee = false ∨ c.holder ≠ 0x3F ∨ standbyOf s b = none → exec (.initialGrant b) s = .next s) ∧
    (let asGrantee := c.grantHeld = true ∧ b = false ∧ heardRow s = false
     let asReferee := ¬ asGrantee ∧ c.referee = true ∧ c.holder ≠ 0x3F ∧ nodesFollow s b = false
     (asGrantee → Does (.latentFaultCheck b) s fun t =>
        stewOf t b = { c with ineligible := addSorted c.ineligible me } ∧ Logged Ev.stewardLatentFault [(1, me)] s t ∧
        sent { type := 3, schema := (rowCh s b).sendVer, term := c.term, holder := c.holder, sender := me, reason := 4 } t ∧
        t = { s with stew := t.stew, row := t.row, log := t.log }) ∧
     (∀ n, asReferee → standbyOf (bars c.holder) b = some n → Does (.latentFaultCheck b) s (grants n)) ∧
     (asReferee → standbyOf (bars c.holder) b = none → Does (.latentFaultCheck b) s fun t => t.stew = (bars c.holder).stew ∧
        Logged Ev.stewardLatentFault [(1, c.holder)] (bars c.holder) t ∧ t = { s with stew := t.stew, log := t.log }) ∧
     (¬ asGrantee → ¬ asReferee → exec (.latentFaultCheck b) s = .next s)) ∧
    (let asks := mayHold s b = true ∧ c.grantHeld = false ∧
       (List.range 4).find? (fun n => n == me || stewPresent s b n) = some me ∧ s.isl.fwRun = true ∧ s.isl.forced = false ∧
       channelFit s false = true ∧ (b = false ∨ channelFit s true = true) ∧ pushFresh s = true ∧ stewEligible s b me = true
     (¬ asks → exec (.takebackRequest b) s = .next s) ∧
     (asks → Does (.takebackRequest b) s fun t => t = { s with row := t.row } ∧
       sent { type := 2, schema := (rowCh s b).sendVer, term := c.term, holder := c.holder, sender := me, reason := 5 } t)) ∧
    (c.takeback = none ∨ c.referee = false → exec (.takebackReleaseTimeout b) s = .next s) ∧
    (∀ n, c.takeback = some n → c.referee = true → Does (.takebackReleaseTimeout b) s (grants n))

/-- Saved state, caps and configuration: a push and its reception, the step's targets and the package's own LIMIT, a
LIMIT heard or missed, and STEWARD_CONFIG (R415, R441, R444 to R447, R452).
The model's own choices in it: notes/assumptions/40. -/
def Obligations.StateCapsAndConfig : Prop :=
  ∀ (b : Bool) (data : List Byte) (entries : List Nat) (r : Req) (s : State),
    let me := rowNode s b
    let entry := entries.getD (me % 8) 0xFFFF % 65536
    (s.isl.on = true →
      (s.stew.a.grantHeld = false → s.stew.b.grantHeld = false → exec .statePush s = .next s) ∧
      (s.stew.a.grantHeld = true ∨ s.stew.b.grantHeld = true → Does .statePush s fun t =>
        t.stew = { s.stew with pushNo := s.stew.pushNo + 1, tablePos := t.stew.tablePos } ∧
        (s.stew.a.grantHeld = false → t.row.a = s.row.a) ∧ (s.stew.b.grantHeld = false → t.row.b = s.row.b) ∧
        t = { s with stew := t.stew, row := t.row }) ∧
      (∀ seg : Fin 8,
        let term := leNat ((data.drop 2).take 2)
        let no := (data.getD 4 0).toNat
        let stores := rowLive s b = true ∧ me < 4 ∧ s.stew.cfg.en = true ∧ (stewOf s b).grantHeld = false
        let segs := sput (if s.stew.partPush.push = no ∧ s.stew.partPush.term = term then s.stew.partPush.segs else []) seg.val data
        let p : Push := { push := no, term := term, segs := segs }
        (¬ stores → exec (.state b seg data) s = .next s) ∧
        (stores → seg.val < 4 → segs.length = 4 → exec (.state b seg data) s =
          .next { s with stew := { s.stew with partPush := p, push := some p, pushAt := some s.log.elapsed } }) ∧
        (stores → seg.val < 4 → segs.length ≠ 4 → exec (.state b seg data) s =
          .next { s with stew := { s.stew with partPush := p } }) ∧
        (stores → 4 ≤ seg.val → Does (.state b seg data) s fun t =>
          (∀ i, i < 10 → leNat ((data.drop 6).take 2) + i < 4096 →
            sget t.stew.tables (4096 * ((data.getD 5 0).toNat % 8) + leNat ((data.drop 6).take 2) + i) =
              some (sext 32 (leNat ((data.drop (8 + 4 * i)).take 4)))) ∧
          t = { s with stew := { s.stew with tables := t.stew.tables } })) ∧
      (Does .stewardStep s fun t => t.stew.cfg = s.stew.pendCfg.getD s.stew.cfg ∧ t.stew.pendCfg = none) ∧
      (s.stew.pendCfg = none → s.stew.a.grantHeld = false → s.stew.b.grantHeld = false → s.stew.a.referee = false →
        s.stew.b.referee = false → Does .stewardStep s fun t =>
          t.stew = s.stew ∧ t = { s with row := { s.row with a := { s.row.a with sendVer := t.row.a.sendVer }
                                                             b := { s.row.b with sendVer := t.row.b.sendVer } } }) ∧
      (s.stew.pendCfg = none → s.stew.a.grantHeld = true → s.stew.b.grantHeld = false → s.stew.b.referee = false →
        rowNode s false < 64 → Does .stewardStep s fun t =>
          (slotOf t 24).target = clampI (-32768) 32767 ((s.stew.cfg.rackDp : Int) + forecastTerm s false) ∧
          (∀ i, i ≠ 24 → slotOf t i = slotOf s i) ∧
          t.pwr = { s.pwr with stewardW := slotEntryOf s (rowNode s false) % 65536 } ∧ t.stew.limitAt = some s.log.elapsed ∧
          t = { s with stew := t.stew, row := t.row, pwr := t.pwr, ctl := { s.ctl with slots := t.ctl.slots } }) ∧
      (∀ gr : Fin 8,
        (rowLive s b = false ∨ me / 8 ≠ gr.val → exec (.limit b gr entries) s = .next s) ∧
        (rowLive s b = true → me / 8 = gr.val → b = false → exec (.limit b gr entries) s =
          .next { s with pwr := { s.pwr with stewardW := entry }, stew := { s.stew with limitAt := some s.log.elapsed } }) ∧
        (rowLive s b = true → me / 8 = gr.val → b = true → exec (.limit b gr entries) s =
          .next { s with stew := { s.stew with rackEntry := entry, rackEntryAt := some s.log.elapsed } })) ∧
      (s.stew.limitAt = none → exec .stewardCapLost s = .next s) ∧
      (s.stew.limitAt.isSome = true → Does .stewardCapLost s fun t => Logged Ev.stewardCapLost [] s t ∧
        t = { s with pwr := { s.pwr with stewardW := 1200 }, stew := { s.stew with limitAt := none }, log := t.log })) ∧
    (Ready 0x251 r s → Ends 0x251 (.stewardConfig r) r 0 (cfgWords (cfgOf r.words)) s fun t =>
      t = { s with port := t.port, stew := { s.stew with pendCfg := some (cfgOf r.words) } })

/-! ## The event recorder -/

/-- The two logs: programming with its page and sector turns, none during a thermal trip, and the words of an open
LOG_READ that an erase takes; the end of the open record; the erases' ends; copies with and without a token; a token
added; LOG_READ (R386, R460, R462 to R466, R472). The model's own choices in it: notes/assumptions/10 and 14. -/
def Obligations.EventRecorder : Prop :=
  ∀ (r : Req) (s : State),
    let l := s.log
    let isl := bitOf (wd r.words 0) 31
    let n := clampN 1 (if isl = true then 4096 else 262144) (fld (wd r.words 0) 0 19)
    let from_ := max (wd r.words 1).toNat (if isl = true then oldestIsl l else oldestMain l)
    let erasedIn := fun (island : Bool) (oldest : Nat) (t : State) => t.port = (readsErased island oldest s).port
    let written := fun x : MainRec =>
      if x.rowValid = true ∧ x.epoch = s.row.epoch ∧ x.powerOn = l.powerOn.toNat then x
      else { x with rowValid := false, rowTime := 0 }
    let recs : List (List Byte) :=
      if isl = true then (((islStored l).filter fun x => decide (from_ ≤ x.1)).take n).map islRecBytes
      else ((l.mainLog.filter fun x => decide (from_ ≤ x.1)).take n).map mainRecBytes
    (s.isl.on = true →
      (s.welt.thermTrip = true → exec .islandRecordProgrammed s = .next s ∧ exec .mainRecordProgrammed s = .next s) ∧
      (s.welt.thermTrip = false → l.islQueue = [] → l.islDropped = 0 → exec .islandRecordProgrammed s =
        .next (readsErased true (oldestIsl l) s)) ∧
      (∀ x q, s.welt.thermTrip = false → l.islQueue = x :: q → l.islDropped = 0 →
        ((curPage l).length < 2048 → (curPage l).length ≠ 1023 → (curPage l).length ≠ 0 ∨ l.pageErase = false →
          Does .islandRecordProgrammed s fun t => curPage t.log = curPage l ++ [(l.islNext, x)] ∧ t.log.islQueue = q ∧
            t.log.islNext = l.islNext + 1 ∧ islStored t.log = islStored l ++ [(l.islNext, x)] ∧ t.log.pageErase = l.pageErase ∧
            erasedIn true (oldestIsl t.log) t ∧
            t = { s with port := t.port
                         log := { l with islQueue := q, islNext := t.log.islNext, pageA := t.log.pageA, pageB := t.log.pageB } }) ∧
        ((curPage l).length = 1023 →
          Does .islandRecordProgrammed s fun t => curPage t.log = curPage l ++ [(l.islNext, x)] ∧ t.log.pageErase = true ∧
            islStored t.log = curPage t.log ∧ t.log.islQueue = q ∧ t.log.curB = l.curB ∧ erasedIn true (oldestIsl t.log) t) ∧
        (2048 ≤ (curPage l).length → curPage { l with curB := !l.curB } = [] → l.pageErase = false →
          Does .islandRecordProgrammed s fun t => t.log.curB = (!l.curB) ∧ curPage t.log = [(l.islNext, x)] ∧
            islStored t.log = curPage l ++ [(l.islNext, x)] ∧ erasedIn true (oldestIsl t.log) t) ∧
        (2048 ≤ (curPage l).length → curPage { l with curB := !l.curB } = [] → l.pageErase = true →
          exec .islandRecordProgrammed s = .next (readsErased true (oldestIsl l) s))) ∧
      (∀ x, l.islOpen = some x → exec .openRecordClose s = .next { s with log := { l with islQueue := l.islQueue ++ [x], islOpen := none } }) ∧
      (l.islOpen = none → exec .openRecordClose s = .next s) ∧
      (exec .islandPageEraseDone s = .next { s with log := { l with pageErase := false } }) ∧
      (mpRuns s = false → exec .mainRecordProgrammed s = .next s ∧ exec .islandRecordCopy s = .next s ∧
        ∀ code, exec (.tokenAdd code) s = .next s) ∧
      (mpRuns s = true → s.welt.thermTrip = false →
        let waits := 0 < l.mainNext ∧ l.mainNext % 1024 = 0 ∧ l.nextErased = false
        (l.mainQueue = [] ∨ waits → exec .mainRecordProgrammed s = .next (readsErased false (oldestMain l) s)) ∧
        (∀ x q, l.mainQueue = x :: q → ¬ waits → l.mainNext % 1024 ≠ 511 →
          let l1 := { l with
            mainQueue := q, mainLog := l.mainLog ++ [(l.mainNext, written x)], mainNext := l.mainNext + 1
            nextErased := l.nextErased && decide (l.mainNext % 1024 ≠ 0) }
          exec .mainRecordProgrammed s = .next (readsErased false (oldestMain l1) { s with log := l1 })) ∧
        (∀ x q, l.mainQueue = x :: q → l.mainNext % 1024 = 511 → Does .mainRecordProgrammed s fun t =>
          t.log.sectorErase = true ∧ t.log.nextErased = false ∧ t.log.mainQueue = q ∧ (l.mainNext, written x) ∈ t.log.mainLog ∧
          (∀ y ∈ t.log.mainLog, l.mainNext / 1024 + 1 < y.1 / 1024 + 256) ∧ erasedIn false (oldestMain t.log) t)) ∧
      (l.sectorErase = true → exec .mainSectorEraseDone s = .next { s with log := { l with sectorErase := false, nextErased := true } }) ∧
      (l.sectorErase = false → exec .mainSectorEraseDone s = .next s) ∧
      (nextCopy l = none → exec .islandRecordCopy s = .next s) ∧
      (∀ x, mpRuns s = true → nextCopy l = some x → unlimited x.2.code = false → 0 < (bucketOf l x.2.code).tokens → l.mainQueue.length < 4096 →
        Does .islandRecordCopy s fun t => t.log.islCopied = x.1 + 1 ∧ t.log.mainQueue = l.mainQueue ++ [copyOf s x.2] ∧
          (bucketOf t.log x.2.code).tokens = (bucketOf l x.2.code).tokens - 1 ∧
          t = { s with log := { l with islCopied := x.1 + 1, mainQueue := t.log.mainQueue, buckets := t.log.buckets } }) ∧
      (∀ x, mpRuns s = true → nextCopy l = some x → unlimited x.2.code = false → (bucketOf l x.2.code).tokens = 0 →
        Does .islandRecordCopy s fun t => t.log.islCopied = x.1 + 1 ∧ t.log.mainQueue = l.mainQueue ∧
          t.log.suppr = min 0xFFFFFFFF (l.suppr + 1) ∧
          (bucketOf t.log x.2.code).pending = (bucketOf l x.2.code).pending + 1) ∧
      (∀ code : Nat,
        (16 ≤ (bucketOf l code).tokens → exec (.tokenAdd code) s = .next s) ∧
        (mpRuns s = true → (bucketOf l code).tokens < 16 → (bucketOf l code).pending = 0 → Does (.tokenAdd code) s fun t =>
          bucketOf t.log code = { bucketOf l code with tokens := (bucketOf l code).tokens + 1 } ∧
          (∀ k, k ≠ code → bucketOf t.log k = bucketOf l k) ∧ t = { s with log := { l with buckets := t.log.buckets } }) ∧
        (mpRuns s = true → (bucketOf l code).tokens < 16 → 0 < (bucketOf l code).pending → l.mainQueue.length < 4096 →
          code ≠ Ev.logSuppressed → Does (.tokenAdd code) s fun t =>
            (bucketOf t.log code).tokens = (bucketOf l code).tokens + 1 ∧ (bucketOf t.log code).pending = 0 ∧
            t.log.mainQueue = l.mainQueue ++ [suppressedRec s code (bucketOf l code)]))) ∧
    (Ready 0x601 r s → windowBusy s r.port 4 0 = true →
      Answered 0x601 (.logRead r) r 2 [mkW [(31, bn isl), (0, n)], wd r.words 1] s) ∧
    (Ready 0x601 r s → windowBusy s r.port 4 0 = false → recs ≠ [] →
      Ends 0x601 (.logRead r) r 0 [mkW [(31, bn isl), (0, recs.length)], BitVec.ofNat 32 from_] s fun t =>
        (t.win r.port).active = true ∧ (t.win r.port).outbound = true ∧ (t.win r.port).target = 4 ∧
        (t.win r.port).outWords = recs.flatMap bytesWords ∧ OnlyPorts s t) ∧
    (Ready 0x601 r s → windowBusy s r.port 4 0 = false → recs = [] →
      Answered 0x601 (.logRead r) r 0 [mkW [(31, bn isl), (0, 0)], BitVec.ofNat 32 from_] s)
end

