-- ==== Sys2Proof/Laws/State.lean ====
section
/-! SUPPORT. What each update of one block of the state leaves in every field. -/

namespace Sys2Proof.Machine

@[simp] theorem State.onPort_pending (f) (s : State) : (s.onPort f).pending = s.pending := rfl
@[simp] theorem State.onPort_free (f) (s : State) : (s.onPort f).free = s.free := rfl
@[simp] theorem State.onPort_port (f) (s : State) : (s.onPort f).port = f s.port := rfl
@[simp] theorem State.onPort_mbx (f) (s : State) : (s.onPort f).mbx = s.mbx := rfl
@[simp] theorem State.onPort_pwr (f) (s : State) : (s.onPort f).pwr = s.pwr := rfl
@[simp] theorem State.onPort_isl (f) (s : State) : (s.onPort f).isl = s.isl := rfl
@[simp] theorem State.onPort_ctl (f) (s : State) : (s.onPort f).ctl = s.ctl := rfl
@[simp] theorem State.onPort_vlv (f) (s : State) : (s.onPort f).vlv = s.vlv := rfl
@[simp] theorem State.onPort_welt (f) (s : State) : (s.onPort f).welt = s.welt := rfl
@[simp] theorem State.onPort_row (f) (s : State) : (s.onPort f).row = s.row := rfl
@[simp] theorem State.onPort_stew (f) (s : State) : (s.onPort f).stew = s.stew := rfl
@[simp] theorem State.onPort_log (f) (s : State) : (s.onPort f).log = s.log := rfl
@[simp] theorem State.onPort_last (f) (s : State) : (s.onPort f).last = s.last := rfl
@[simp] theorem State.onPort_core (f) (s : State) : (s.onPort f).core = s.core := rfl
@[simp] theorem State.onPort_mem (f) (s : State) : (s.onPort f).mem = s.mem := rfl
@[simp] theorem State.onPort_lace (f) (s : State) : (s.onPort f).lace = s.lace := rfl
@[simp] theorem State.onPort_sec (f) (s : State) : (s.onPort f).sec = s.sec := rfl
@[simp] theorem State.onPort_health (f) (s : State) : (s.onPort f).health = s.health := rfl

@[simp] theorem State.onMbx_pending (f) (s : State) : (s.onMbx f).pending = s.pending := rfl
@[simp] theorem State.onMbx_free (f) (s : State) : (s.onMbx f).free = s.free := rfl
@[simp] theorem State.onMbx_port (f) (s : State) : (s.onMbx f).port = s.port := rfl
@[simp] theorem State.onMbx_mbx (f) (s : State) : (s.onMbx f).mbx = f s.mbx := rfl
@[simp] theorem State.onMbx_pwr (f) (s : State) : (s.onMbx f).pwr = s.pwr := rfl
@[simp] theorem State.onMbx_isl (f) (s : State) : (s.onMbx f).isl = s.isl := rfl
@[simp] theorem State.onMbx_ctl (f) (s : State) : (s.onMbx f).ctl = s.ctl := rfl
@[simp] theorem State.onMbx_vlv (f) (s : State) : (s.onMbx f).vlv = s.vlv := rfl
@[simp] theorem State.onMbx_welt (f) (s : State) : (s.onMbx f).welt = s.welt := rfl
@[simp] theorem State.onMbx_row (f) (s : State) : (s.onMbx f).row = s.row := rfl
@[simp] theorem State.onMbx_stew (f) (s : State) : (s.onMbx f).stew = s.stew := rfl
@[simp] theorem State.onMbx_log (f) (s : State) : (s.onMbx f).log = s.log := rfl
@[simp] theorem State.onMbx_last (f) (s : State) : (s.onMbx f).last = s.last := rfl
@[simp] theorem State.onMbx_core (f) (s : State) : (s.onMbx f).core = s.core := rfl
@[simp] theorem State.onMbx_mem (f) (s : State) : (s.onMbx f).mem = s.mem := rfl
@[simp] theorem State.onMbx_lace (f) (s : State) : (s.onMbx f).lace = s.lace := rfl
@[simp] theorem State.onMbx_sec (f) (s : State) : (s.onMbx f).sec = s.sec := rfl
@[simp] theorem State.onMbx_health (f) (s : State) : (s.onMbx f).health = s.health := rfl

@[simp] theorem State.onPwr_pending (f) (s : State) : (s.onPwr f).pending = s.pending := rfl
@[simp] theorem State.onPwr_free (f) (s : State) : (s.onPwr f).free = s.free := rfl
@[simp] theorem State.onPwr_port (f) (s : State) : (s.onPwr f).port = s.port := rfl
@[simp] theorem State.onPwr_mbx (f) (s : State) : (s.onPwr f).mbx = s.mbx := rfl
@[simp] theorem State.onPwr_pwr (f) (s : State) : (s.onPwr f).pwr = f s.pwr := rfl
@[simp] theorem State.onPwr_isl (f) (s : State) : (s.onPwr f).isl = s.isl := rfl
@[simp] theorem State.onPwr_ctl (f) (s : State) : (s.onPwr f).ctl = s.ctl := rfl
@[simp] theorem State.onPwr_vlv (f) (s : State) : (s.onPwr f).vlv = s.vlv := rfl
@[simp] theorem State.onPwr_welt (f) (s : State) : (s.onPwr f).welt = s.welt := rfl
@[simp] theorem State.onPwr_row (f) (s : State) : (s.onPwr f).row = s.row := rfl
@[simp] theorem State.onPwr_stew (f) (s : State) : (s.onPwr f).stew = s.stew := rfl
@[simp] theorem State.onPwr_log (f) (s : State) : (s.onPwr f).log = s.log := rfl
@[simp] theorem State.onPwr_last (f) (s : State) : (s.onPwr f).last = s.last := rfl
@[simp] theorem State.onPwr_core (f) (s : State) : (s.onPwr f).core = s.core := rfl
@[simp] theorem State.onPwr_mem (f) (s : State) : (s.onPwr f).mem = s.mem := rfl
@[simp] theorem State.onPwr_lace (f) (s : State) : (s.onPwr f).lace = s.lace := rfl
@[simp] theorem State.onPwr_sec (f) (s : State) : (s.onPwr f).sec = s.sec := rfl
@[simp] theorem State.onPwr_health (f) (s : State) : (s.onPwr f).health = s.health := rfl

@[simp] theorem State.onIsl_pending (f) (s : State) : (s.onIsl f).pending = s.pending := rfl
@[simp] theorem State.onIsl_free (f) (s : State) : (s.onIsl f).free = s.free := rfl
@[simp] theorem State.onIsl_port (f) (s : State) : (s.onIsl f).port = s.port := rfl
@[simp] theorem State.onIsl_mbx (f) (s : State) : (s.onIsl f).mbx = s.mbx := rfl
@[simp] theorem State.onIsl_pwr (f) (s : State) : (s.onIsl f).pwr = s.pwr := rfl
@[simp] theorem State.onIsl_isl (f) (s : State) : (s.onIsl f).isl = f s.isl := rfl
@[simp] theorem State.onIsl_ctl (f) (s : State) : (s.onIsl f).ctl = s.ctl := rfl
@[simp] theorem State.onIsl_vlv (f) (s : State) : (s.onIsl f).vlv = s.vlv := rfl
@[simp] theorem State.onIsl_welt (f) (s : State) : (s.onIsl f).welt = s.welt := rfl
@[simp] theorem State.onIsl_row (f) (s : State) : (s.onIsl f).row = s.row := rfl
@[simp] theorem State.onIsl_stew (f) (s : State) : (s.onIsl f).stew = s.stew := rfl
@[simp] theorem State.onIsl_log (f) (s : State) : (s.onIsl f).log = s.log := rfl
@[simp] theorem State.onIsl_last (f) (s : State) : (s.onIsl f).last = s.last := rfl
@[simp] theorem State.onIsl_core (f) (s : State) : (s.onIsl f).core = s.core := rfl
@[simp] theorem State.onIsl_mem (f) (s : State) : (s.onIsl f).mem = s.mem := rfl
@[simp] theorem State.onIsl_lace (f) (s : State) : (s.onIsl f).lace = s.lace := rfl
@[simp] theorem State.onIsl_sec (f) (s : State) : (s.onIsl f).sec = s.sec := rfl
@[simp] theorem State.onIsl_health (f) (s : State) : (s.onIsl f).health = s.health := rfl

@[simp] theorem State.onCtl_pending (f) (s : State) : (s.onCtl f).pending = s.pending := rfl
@[simp] theorem State.onCtl_free (f) (s : State) : (s.onCtl f).free = s.free := rfl
@[simp] theorem State.onCtl_port (f) (s : State) : (s.onCtl f).port = s.port := rfl
@[simp] theorem State.onCtl_mbx (f) (s : State) : (s.onCtl f).mbx = s.mbx := rfl
@[simp] theorem State.onCtl_pwr (f) (s : State) : (s.onCtl f).pwr = s.pwr := rfl
@[simp] theorem State.onCtl_isl (f) (s : State) : (s.onCtl f).isl = s.isl := rfl
@[simp] theorem State.onCtl_ctl (f) (s : State) : (s.onCtl f).ctl = f s.ctl := rfl
@[simp] theorem State.onCtl_vlv (f) (s : State) : (s.onCtl f).vlv = s.vlv := rfl
@[simp] theorem State.onCtl_welt (f) (s : State) : (s.onCtl f).welt = s.welt := rfl
@[simp] theorem State.onCtl_row (f) (s : State) : (s.onCtl f).row = s.row := rfl
@[simp] theorem State.onCtl_stew (f) (s : State) : (s.onCtl f).stew = s.stew := rfl
@[simp] theorem State.onCtl_log (f) (s : State) : (s.onCtl f).log = s.log := rfl
@[simp] theorem State.onCtl_last (f) (s : State) : (s.onCtl f).last = s.last := rfl
@[simp] theorem State.onCtl_core (f) (s : State) : (s.onCtl f).core = s.core := rfl
@[simp] theorem State.onCtl_mem (f) (s : State) : (s.onCtl f).mem = s.mem := rfl
@[simp] theorem State.onCtl_lace (f) (s : State) : (s.onCtl f).lace = s.lace := rfl
@[simp] theorem State.onCtl_sec (f) (s : State) : (s.onCtl f).sec = s.sec := rfl
@[simp] theorem State.onCtl_health (f) (s : State) : (s.onCtl f).health = s.health := rfl

@[simp] theorem State.onVlv_pending (f) (s : State) : (s.onVlv f).pending = s.pending := rfl
@[simp] theorem State.onVlv_free (f) (s : State) : (s.onVlv f).free = s.free := rfl
@[simp] theorem State.onVlv_port (f) (s : State) : (s.onVlv f).port = s.port := rfl
@[simp] theorem State.onVlv_mbx (f) (s : State) : (s.onVlv f).mbx = s.mbx := rfl
@[simp] theorem State.onVlv_pwr (f) (s : State) : (s.onVlv f).pwr = s.pwr := rfl
@[simp] theorem State.onVlv_isl (f) (s : State) : (s.onVlv f).isl = s.isl := rfl
@[simp] theorem State.onVlv_ctl (f) (s : State) : (s.onVlv f).ctl = s.ctl := rfl
@[simp] theorem State.onVlv_vlv (f) (s : State) : (s.onVlv f).vlv = f s.vlv := rfl
@[simp] theorem State.onVlv_welt (f) (s : State) : (s.onVlv f).welt = s.welt := rfl
@[simp] theorem State.onVlv_row (f) (s : State) : (s.onVlv f).row = s.row := rfl
@[simp] theorem State.onVlv_stew (f) (s : State) : (s.onVlv f).stew = s.stew := rfl
@[simp] theorem State.onVlv_log (f) (s : State) : (s.onVlv f).log = s.log := rfl
@[simp] theorem State.onVlv_last (f) (s : State) : (s.onVlv f).last = s.last := rfl
@[simp] theorem State.onVlv_core (f) (s : State) : (s.onVlv f).core = s.core := rfl
@[simp] theorem State.onVlv_mem (f) (s : State) : (s.onVlv f).mem = s.mem := rfl
@[simp] theorem State.onVlv_lace (f) (s : State) : (s.onVlv f).lace = s.lace := rfl
@[simp] theorem State.onVlv_sec (f) (s : State) : (s.onVlv f).sec = s.sec := rfl
@[simp] theorem State.onVlv_health (f) (s : State) : (s.onVlv f).health = s.health := rfl

@[simp] theorem State.onWelt_pending (f) (s : State) : (s.onWelt f).pending = s.pending := rfl
@[simp] theorem State.onWelt_free (f) (s : State) : (s.onWelt f).free = s.free := rfl
@[simp] theorem State.onWelt_port (f) (s : State) : (s.onWelt f).port = s.port := rfl
@[simp] theorem State.onWelt_mbx (f) (s : State) : (s.onWelt f).mbx = s.mbx := rfl
@[simp] theorem State.onWelt_pwr (f) (s : State) : (s.onWelt f).pwr = s.pwr := rfl
@[simp] theorem State.onWelt_isl (f) (s : State) : (s.onWelt f).isl = s.isl := rfl
@[simp] theorem State.onWelt_ctl (f) (s : State) : (s.onWelt f).ctl = s.ctl := rfl
@[simp] theorem State.onWelt_vlv (f) (s : State) : (s.onWelt f).vlv = s.vlv := rfl
@[simp] theorem State.onWelt_welt (f) (s : State) : (s.onWelt f).welt = f s.welt := rfl
@[simp] theorem State.onWelt_row (f) (s : State) : (s.onWelt f).row = s.row := rfl
@[simp] theorem State.onWelt_stew (f) (s : State) : (s.onWelt f).stew = s.stew := rfl
@[simp] theorem State.onWelt_log (f) (s : State) : (s.onWelt f).log = s.log := rfl
@[simp] theorem State.onWelt_last (f) (s : State) : (s.onWelt f).last = s.last := rfl
@[simp] theorem State.onWelt_core (f) (s : State) : (s.onWelt f).core = s.core := rfl
@[simp] theorem State.onWelt_mem (f) (s : State) : (s.onWelt f).mem = s.mem := rfl
@[simp] theorem State.onWelt_lace (f) (s : State) : (s.onWelt f).lace = s.lace := rfl
@[simp] theorem State.onWelt_sec (f) (s : State) : (s.onWelt f).sec = s.sec := rfl
@[simp] theorem State.onWelt_health (f) (s : State) : (s.onWelt f).health = s.health := rfl

@[simp] theorem State.onRow_pending (f) (s : State) : (s.onRow f).pending = s.pending := rfl
@[simp] theorem State.onRow_free (f) (s : State) : (s.onRow f).free = s.free := rfl
@[simp] theorem State.onRow_port (f) (s : State) : (s.onRow f).port = s.port := rfl
@[simp] theorem State.onRow_mbx (f) (s : State) : (s.onRow f).mbx = s.mbx := rfl
@[simp] theorem State.onRow_pwr (f) (s : State) : (s.onRow f).pwr = s.pwr := rfl
@[simp] theorem State.onRow_isl (f) (s : State) : (s.onRow f).isl = s.isl := rfl
@[simp] theorem State.onRow_ctl (f) (s : State) : (s.onRow f).ctl = s.ctl := rfl
@[simp] theorem State.onRow_vlv (f) (s : State) : (s.onRow f).vlv = s.vlv := rfl
@[simp] theorem State.onRow_welt (f) (s : State) : (s.onRow f).welt = s.welt := rfl
@[simp] theorem State.onRow_row (f) (s : State) : (s.onRow f).row = f s.row := rfl
@[simp] theorem State.onRow_stew (f) (s : State) : (s.onRow f).stew = s.stew := rfl
@[simp] theorem State.onRow_log (f) (s : State) : (s.onRow f).log = s.log := rfl
@[simp] theorem State.onRow_last (f) (s : State) : (s.onRow f).last = s.last := rfl
@[simp] theorem State.onRow_core (f) (s : State) : (s.onRow f).core = s.core := rfl
@[simp] theorem State.onRow_mem (f) (s : State) : (s.onRow f).mem = s.mem := rfl
@[simp] theorem State.onRow_lace (f) (s : State) : (s.onRow f).lace = s.lace := rfl
@[simp] theorem State.onRow_sec (f) (s : State) : (s.onRow f).sec = s.sec := rfl
@[simp] theorem State.onRow_health (f) (s : State) : (s.onRow f).health = s.health := rfl

@[simp] theorem State.onStew_pending (f) (s : State) : (s.onStew f).pending = s.pending := rfl
@[simp] theorem State.onStew_free (f) (s : State) : (s.onStew f).free = s.free := rfl
@[simp] theorem State.onStew_port (f) (s : State) : (s.onStew f).port = s.port := rfl
@[simp] theorem State.onStew_mbx (f) (s : State) : (s.onStew f).mbx = s.mbx := rfl
@[simp] theorem State.onStew_pwr (f) (s : State) : (s.onStew f).pwr = s.pwr := rfl
@[simp] theorem State.onStew_isl (f) (s : State) : (s.onStew f).isl = s.isl := rfl
@[simp] theorem State.onStew_ctl (f) (s : State) : (s.onStew f).ctl = s.ctl := rfl
@[simp] theorem State.onStew_vlv (f) (s : State) : (s.onStew f).vlv = s.vlv := rfl
@[simp] theorem State.onStew_welt (f) (s : State) : (s.onStew f).welt = s.welt := rfl
@[simp] theorem State.onStew_row (f) (s : State) : (s.onStew f).row = s.row := rfl
@[simp] theorem State.onStew_stew (f) (s : State) : (s.onStew f).stew = f s.stew := rfl
@[simp] theorem State.onStew_log (f) (s : State) : (s.onStew f).log = s.log := rfl
@[simp] theorem State.onStew_last (f) (s : State) : (s.onStew f).last = s.last := rfl
@[simp] theorem State.onStew_core (f) (s : State) : (s.onStew f).core = s.core := rfl
@[simp] theorem State.onStew_mem (f) (s : State) : (s.onStew f).mem = s.mem := rfl
@[simp] theorem State.onStew_lace (f) (s : State) : (s.onStew f).lace = s.lace := rfl
@[simp] theorem State.onStew_sec (f) (s : State) : (s.onStew f).sec = s.sec := rfl
@[simp] theorem State.onStew_health (f) (s : State) : (s.onStew f).health = s.health := rfl

@[simp] theorem State.onLog_pending (f) (s : State) : (s.onLog f).pending = s.pending := rfl
@[simp] theorem State.onLog_free (f) (s : State) : (s.onLog f).free = s.free := rfl
@[simp] theorem State.onLog_port (f) (s : State) : (s.onLog f).port = s.port := rfl
@[simp] theorem State.onLog_mbx (f) (s : State) : (s.onLog f).mbx = s.mbx := rfl
@[simp] theorem State.onLog_pwr (f) (s : State) : (s.onLog f).pwr = s.pwr := rfl
@[simp] theorem State.onLog_isl (f) (s : State) : (s.onLog f).isl = s.isl := rfl
@[simp] theorem State.onLog_ctl (f) (s : State) : (s.onLog f).ctl = s.ctl := rfl
@[simp] theorem State.onLog_vlv (f) (s : State) : (s.onLog f).vlv = s.vlv := rfl
@[simp] theorem State.onLog_welt (f) (s : State) : (s.onLog f).welt = s.welt := rfl
@[simp] theorem State.onLog_row (f) (s : State) : (s.onLog f).row = s.row := rfl
@[simp] theorem State.onLog_stew (f) (s : State) : (s.onLog f).stew = s.stew := rfl
@[simp] theorem State.onLog_log (f) (s : State) : (s.onLog f).log = f s.log := rfl
@[simp] theorem State.onLog_last (f) (s : State) : (s.onLog f).last = s.last := rfl
@[simp] theorem State.onLog_core (f) (s : State) : (s.onLog f).core = s.core := rfl
@[simp] theorem State.onLog_mem (f) (s : State) : (s.onLog f).mem = s.mem := rfl
@[simp] theorem State.onLog_lace (f) (s : State) : (s.onLog f).lace = s.lace := rfl
@[simp] theorem State.onLog_sec (f) (s : State) : (s.onLog f).sec = s.sec := rfl
@[simp] theorem State.onLog_health (f) (s : State) : (s.onLog f).health = s.health := rfl

@[simp] theorem State.onLast_pending (f) (s : State) : (s.onLast f).pending = s.pending := rfl
@[simp] theorem State.onLast_free (f) (s : State) : (s.onLast f).free = s.free := rfl
@[simp] theorem State.onLast_port (f) (s : State) : (s.onLast f).port = s.port := rfl
@[simp] theorem State.onLast_mbx (f) (s : State) : (s.onLast f).mbx = s.mbx := rfl
@[simp] theorem State.onLast_pwr (f) (s : State) : (s.onLast f).pwr = s.pwr := rfl
@[simp] theorem State.onLast_isl (f) (s : State) : (s.onLast f).isl = s.isl := rfl
@[simp] theorem State.onLast_ctl (f) (s : State) : (s.onLast f).ctl = s.ctl := rfl
@[simp] theorem State.onLast_vlv (f) (s : State) : (s.onLast f).vlv = s.vlv := rfl
@[simp] theorem State.onLast_welt (f) (s : State) : (s.onLast f).welt = s.welt := rfl
@[simp] theorem State.onLast_row (f) (s : State) : (s.onLast f).row = s.row := rfl
@[simp] theorem State.onLast_stew (f) (s : State) : (s.onLast f).stew = s.stew := rfl
@[simp] theorem State.onLast_log (f) (s : State) : (s.onLast f).log = s.log := rfl
@[simp] theorem State.onLast_last (f) (s : State) : (s.onLast f).last = f s.last := rfl
@[simp] theorem State.onLast_core (f) (s : State) : (s.onLast f).core = s.core := rfl
@[simp] theorem State.onLast_mem (f) (s : State) : (s.onLast f).mem = s.mem := rfl
@[simp] theorem State.onLast_lace (f) (s : State) : (s.onLast f).lace = s.lace := rfl
@[simp] theorem State.onLast_sec (f) (s : State) : (s.onLast f).sec = s.sec := rfl
@[simp] theorem State.onLast_health (f) (s : State) : (s.onLast f).health = s.health := rfl

@[simp] theorem State.onCore_pending (f) (s : State) : (s.onCore f).pending = s.pending := rfl
@[simp] theorem State.onCore_free (f) (s : State) : (s.onCore f).free = s.free := rfl
@[simp] theorem State.onCore_port (f) (s : State) : (s.onCore f).port = s.port := rfl
@[simp] theorem State.onCore_mbx (f) (s : State) : (s.onCore f).mbx = s.mbx := rfl
@[simp] theorem State.onCore_pwr (f) (s : State) : (s.onCore f).pwr = s.pwr := rfl
@[simp] theorem State.onCore_isl (f) (s : State) : (s.onCore f).isl = s.isl := rfl
@[simp] theorem State.onCore_ctl (f) (s : State) : (s.onCore f).ctl = s.ctl := rfl
@[simp] theorem State.onCore_vlv (f) (s : State) : (s.onCore f).vlv = s.vlv := rfl
@[simp] theorem State.onCore_welt (f) (s : State) : (s.onCore f).welt = s.welt := rfl
@[simp] theorem State.onCore_row (f) (s : State) : (s.onCore f).row = s.row := rfl
@[simp] theorem State.onCore_stew (f) (s : State) : (s.onCore f).stew = s.stew := rfl
@[simp] theorem State.onCore_log (f) (s : State) : (s.onCore f).log = s.log := rfl
@[simp] theorem State.onCore_last (f) (s : State) : (s.onCore f).last = s.last := rfl
@[simp] theorem State.onCore_core (f) (s : State) : (s.onCore f).core = f s.core := rfl
@[simp] theorem State.onCore_mem (f) (s : State) : (s.onCore f).mem = s.mem := rfl
@[simp] theorem State.onCore_lace (f) (s : State) : (s.onCore f).lace = s.lace := rfl
@[simp] theorem State.onCore_sec (f) (s : State) : (s.onCore f).sec = s.sec := rfl
@[simp] theorem State.onCore_health (f) (s : State) : (s.onCore f).health = s.health := rfl

@[simp] theorem State.onMem_pending (f) (s : State) : (s.onMem f).pending = s.pending := rfl
@[simp] theorem State.onMem_free (f) (s : State) : (s.onMem f).free = s.free := rfl
@[simp] theorem State.onMem_port (f) (s : State) : (s.onMem f).port = s.port := rfl
@[simp] theorem State.onMem_mbx (f) (s : State) : (s.onMem f).mbx = s.mbx := rfl
@[simp] theorem State.onMem_pwr (f) (s : State) : (s.onMem f).pwr = s.pwr := rfl
@[simp] theorem State.onMem_isl (f) (s : State) : (s.onMem f).isl = s.isl := rfl
@[simp] theorem State.onMem_ctl (f) (s : State) : (s.onMem f).ctl = s.ctl := rfl
@[simp] theorem State.onMem_vlv (f) (s : State) : (s.onMem f).vlv = s.vlv := rfl
@[simp] theorem State.onMem_welt (f) (s : State) : (s.onMem f).welt = s.welt := rfl
@[simp] theorem State.onMem_row (f) (s : State) : (s.onMem f).row = s.row := rfl
@[simp] theorem State.onMem_stew (f) (s : State) : (s.onMem f).stew = s.stew := rfl
@[simp] theorem State.onMem_log (f) (s : State) : (s.onMem f).log = s.log := rfl
@[simp] theorem State.onMem_last (f) (s : State) : (s.onMem f).last = s.last := rfl
@[simp] theorem State.onMem_core (f) (s : State) : (s.onMem f).core = s.core := rfl
@[simp] theorem State.onMem_mem (f) (s : State) : (s.onMem f).mem = f s.mem := rfl
@[simp] theorem State.onMem_lace (f) (s : State) : (s.onMem f).lace = s.lace := rfl
@[simp] theorem State.onMem_sec (f) (s : State) : (s.onMem f).sec = s.sec := rfl
@[simp] theorem State.onMem_health (f) (s : State) : (s.onMem f).health = s.health := rfl

@[simp] theorem State.onLace_pending (f) (s : State) : (s.onLace f).pending = s.pending := rfl
@[simp] theorem State.onLace_free (f) (s : State) : (s.onLace f).free = s.free := rfl
@[simp] theorem State.onLace_port (f) (s : State) : (s.onLace f).port = s.port := rfl
@[simp] theorem State.onLace_mbx (f) (s : State) : (s.onLace f).mbx = s.mbx := rfl
@[simp] theorem State.onLace_pwr (f) (s : State) : (s.onLace f).pwr = s.pwr := rfl
@[simp] theorem State.onLace_isl (f) (s : State) : (s.onLace f).isl = s.isl := rfl
@[simp] theorem State.onLace_ctl (f) (s : State) : (s.onLace f).ctl = s.ctl := rfl
@[simp] theorem State.onLace_vlv (f) (s : State) : (s.onLace f).vlv = s.vlv := rfl
@[simp] theorem State.onLace_welt (f) (s : State) : (s.onLace f).welt = s.welt := rfl
@[simp] theorem State.onLace_row (f) (s : State) : (s.onLace f).row = s.row := rfl
@[simp] theorem State.onLace_stew (f) (s : State) : (s.onLace f).stew = s.stew := rfl
@[simp] theorem State.onLace_log (f) (s : State) : (s.onLace f).log = s.log := rfl
@[simp] theorem State.onLace_last (f) (s : State) : (s.onLace f).last = s.last := rfl
@[simp] theorem State.onLace_core (f) (s : State) : (s.onLace f).core = s.core := rfl
@[simp] theorem State.onLace_mem (f) (s : State) : (s.onLace f).mem = s.mem := rfl
@[simp] theorem State.onLace_lace (f) (s : State) : (s.onLace f).lace = f s.lace := rfl
@[simp] theorem State.onLace_sec (f) (s : State) : (s.onLace f).sec = s.sec := rfl
@[simp] theorem State.onLace_health (f) (s : State) : (s.onLace f).health = s.health := rfl

@[simp] theorem State.onSec_pending (f) (s : State) : (s.onSec f).pending = s.pending := rfl
@[simp] theorem State.onSec_free (f) (s : State) : (s.onSec f).free = s.free := rfl
@[simp] theorem State.onSec_port (f) (s : State) : (s.onSec f).port = s.port := rfl
@[simp] theorem State.onSec_mbx (f) (s : State) : (s.onSec f).mbx = s.mbx := rfl
@[simp] theorem State.onSec_pwr (f) (s : State) : (s.onSec f).pwr = s.pwr := rfl
@[simp] theorem State.onSec_isl (f) (s : State) : (s.onSec f).isl = s.isl := rfl
@[simp] theorem State.onSec_ctl (f) (s : State) : (s.onSec f).ctl = s.ctl := rfl
@[simp] theorem State.onSec_vlv (f) (s : State) : (s.onSec f).vlv = s.vlv := rfl
@[simp] theorem State.onSec_welt (f) (s : State) : (s.onSec f).welt = s.welt := rfl
@[simp] theorem State.onSec_row (f) (s : State) : (s.onSec f).row = s.row := rfl
@[simp] theorem State.onSec_stew (f) (s : State) : (s.onSec f).stew = s.stew := rfl
@[simp] theorem State.onSec_log (f) (s : State) : (s.onSec f).log = s.log := rfl
@[simp] theorem State.onSec_last (f) (s : State) : (s.onSec f).last = s.last := rfl
@[simp] theorem State.onSec_core (f) (s : State) : (s.onSec f).core = s.core := rfl
@[simp] theorem State.onSec_mem (f) (s : State) : (s.onSec f).mem = s.mem := rfl
@[simp] theorem State.onSec_lace (f) (s : State) : (s.onSec f).lace = s.lace := rfl
@[simp] theorem State.onSec_sec (f) (s : State) : (s.onSec f).sec = f s.sec := rfl
@[simp] theorem State.onSec_health (f) (s : State) : (s.onSec f).health = s.health := rfl

@[simp] theorem State.onHealth_pending (f) (s : State) : (s.onHealth f).pending = s.pending := rfl
@[simp] theorem State.onHealth_free (f) (s : State) : (s.onHealth f).free = s.free := rfl
@[simp] theorem State.onHealth_port (f) (s : State) : (s.onHealth f).port = s.port := rfl
@[simp] theorem State.onHealth_mbx (f) (s : State) : (s.onHealth f).mbx = s.mbx := rfl
@[simp] theorem State.onHealth_pwr (f) (s : State) : (s.onHealth f).pwr = s.pwr := rfl
@[simp] theorem State.onHealth_isl (f) (s : State) : (s.onHealth f).isl = s.isl := rfl
@[simp] theorem State.onHealth_ctl (f) (s : State) : (s.onHealth f).ctl = s.ctl := rfl
@[simp] theorem State.onHealth_vlv (f) (s : State) : (s.onHealth f).vlv = s.vlv := rfl
@[simp] theorem State.onHealth_welt (f) (s : State) : (s.onHealth f).welt = s.welt := rfl
@[simp] theorem State.onHealth_row (f) (s : State) : (s.onHealth f).row = s.row := rfl
@[simp] theorem State.onHealth_stew (f) (s : State) : (s.onHealth f).stew = s.stew := rfl
@[simp] theorem State.onHealth_log (f) (s : State) : (s.onHealth f).log = s.log := rfl
@[simp] theorem State.onHealth_last (f) (s : State) : (s.onHealth f).last = s.last := rfl
@[simp] theorem State.onHealth_core (f) (s : State) : (s.onHealth f).core = s.core := rfl
@[simp] theorem State.onHealth_mem (f) (s : State) : (s.onHealth f).mem = s.mem := rfl
@[simp] theorem State.onHealth_lace (f) (s : State) : (s.onHealth f).lace = s.lace := rfl
@[simp] theorem State.onHealth_sec (f) (s : State) : (s.onHealth f).sec = s.sec := rfl
@[simp] theorem State.onHealth_health (f) (s : State) : (s.onHealth f).health = f s.health := rfl

end Sys2Proof.Machine
end

