-- ==== Sys2Proof/Laws/Frames.lean ====
section
/-! SUPPORT. Which blocks the shared operations leave alone. -/

namespace Sys2Proof.Machine

@[simp] theorem evalIrq_pending (s : State) : (evalIrq s).pending = s.pending := rfl
@[simp] theorem evalIrq_free (s : State) : (evalIrq s).free = s.free := rfl
@[simp] theorem evalIrq_mbx (s : State) : (evalIrq s).mbx = s.mbx := rfl
@[simp] theorem evalIrq_pwr (s : State) : (evalIrq s).pwr = s.pwr := rfl
@[simp] theorem evalIrq_isl (s : State) : (evalIrq s).isl = s.isl := rfl
@[simp] theorem evalIrq_ctl (s : State) : (evalIrq s).ctl = s.ctl := rfl
@[simp] theorem evalIrq_vlv (s : State) : (evalIrq s).vlv = s.vlv := rfl
@[simp] theorem evalIrq_welt (s : State) : (evalIrq s).welt = s.welt := rfl
@[simp] theorem evalIrq_row (s : State) : (evalIrq s).row = s.row := rfl
@[simp] theorem evalIrq_stew (s : State) : (evalIrq s).stew = s.stew := rfl
@[simp] theorem evalIrq_log (s : State) : (evalIrq s).log = s.log := rfl
@[simp] theorem evalIrq_last (s : State) : (evalIrq s).last = s.last := rfl
@[simp] theorem evalIrq_core (s : State) : (evalIrq s).core = s.core := rfl
@[simp] theorem evalIrq_mem (s : State) : (evalIrq s).mem = s.mem := rfl
@[simp] theorem evalIrq_lace (s : State) : (evalIrq s).lace = s.lace := rfl
@[simp] theorem evalIrq_sec (s : State) : (evalIrq s).sec = s.sec := rfl
@[simp] theorem evalIrq_health (s : State) : (evalIrq s).health = s.health := rfl

@[simp] theorem State.onWin_pending (p : Port) (f) (s : State) : (s.onWin p f).pending = s.pending := rfl
@[simp] theorem State.onWin_free (p : Port) (f) (s : State) : (s.onWin p f).free = s.free := rfl
@[simp] theorem State.onWin_mbx (p : Port) (f) (s : State) : (s.onWin p f).mbx = s.mbx := rfl
@[simp] theorem State.onWin_pwr (p : Port) (f) (s : State) : (s.onWin p f).pwr = s.pwr := rfl
@[simp] theorem State.onWin_isl (p : Port) (f) (s : State) : (s.onWin p f).isl = s.isl := rfl
@[simp] theorem State.onWin_ctl (p : Port) (f) (s : State) : (s.onWin p f).ctl = s.ctl := rfl
@[simp] theorem State.onWin_vlv (p : Port) (f) (s : State) : (s.onWin p f).vlv = s.vlv := rfl
@[simp] theorem State.onWin_welt (p : Port) (f) (s : State) : (s.onWin p f).welt = s.welt := rfl
@[simp] theorem State.onWin_row (p : Port) (f) (s : State) : (s.onWin p f).row = s.row := rfl
@[simp] theorem State.onWin_stew (p : Port) (f) (s : State) : (s.onWin p f).stew = s.stew := rfl
@[simp] theorem State.onWin_log (p : Port) (f) (s : State) : (s.onWin p f).log = s.log := rfl
@[simp] theorem State.onWin_last (p : Port) (f) (s : State) : (s.onWin p f).last = s.last := rfl
@[simp] theorem State.onWin_core (p : Port) (f) (s : State) : (s.onWin p f).core = s.core := rfl
@[simp] theorem State.onWin_mem (p : Port) (f) (s : State) : (s.onWin p f).mem = s.mem := rfl
@[simp] theorem State.onWin_lace (p : Port) (f) (s : State) : (s.onWin p f).lace = s.lace := rfl
@[simp] theorem State.onWin_sec (p : Port) (f) (s : State) : (s.onWin p f).sec = s.sec := rfl
@[simp] theorem State.onWin_health (p : Port) (f) (s : State) : (s.onWin p f).health = s.health := rfl

@[simp] theorem putReply_pending (p : Port) (tag r) (s : State) : (putReply p tag r s).pending = s.pending := rfl
@[simp] theorem putReply_free (p : Port) (tag r) (s : State) : (putReply p tag r s).free = s.free := rfl
@[simp] theorem putReply_mbx (p : Port) (tag r) (s : State) : (putReply p tag r s).mbx = s.mbx := rfl
@[simp] theorem putReply_pwr (p : Port) (tag r) (s : State) : (putReply p tag r s).pwr = s.pwr := rfl
@[simp] theorem putReply_isl (p : Port) (tag r) (s : State) : (putReply p tag r s).isl = s.isl := rfl
@[simp] theorem putReply_ctl (p : Port) (tag r) (s : State) : (putReply p tag r s).ctl = s.ctl := rfl
@[simp] theorem putReply_vlv (p : Port) (tag r) (s : State) : (putReply p tag r s).vlv = s.vlv := rfl
@[simp] theorem putReply_welt (p : Port) (tag r) (s : State) : (putReply p tag r s).welt = s.welt := rfl
@[simp] theorem putReply_row (p : Port) (tag r) (s : State) : (putReply p tag r s).row = s.row := rfl
@[simp] theorem putReply_stew (p : Port) (tag r) (s : State) : (putReply p tag r s).stew = s.stew := rfl
@[simp] theorem putReply_log (p : Port) (tag r) (s : State) : (putReply p tag r s).log = s.log := rfl
@[simp] theorem putReply_last (p : Port) (tag r) (s : State) : (putReply p tag r s).last = s.last := rfl
@[simp] theorem putReply_core (p : Port) (tag r) (s : State) : (putReply p tag r s).core = s.core := rfl
@[simp] theorem putReply_mem (p : Port) (tag r) (s : State) : (putReply p tag r s).mem = s.mem := rfl
@[simp] theorem putReply_lace (p : Port) (tag r) (s : State) : (putReply p tag r s).lace = s.lace := rfl
@[simp] theorem putReply_sec (p : Port) (tag r) (s : State) : (putReply p tag r s).sec = s.sec := rfl
@[simp] theorem putReply_health (p : Port) (tag r) (s : State) : (putReply p tag r s).health = s.health := rfl

@[simp] theorem cmdReject_pending (p : Port) (tag) (s : State) : (cmdReject p tag s).pending = s.pending := rfl
@[simp] theorem cmdReject_free (p : Port) (tag) (s : State) : (cmdReject p tag s).free = s.free := rfl
@[simp] theorem cmdReject_mbx (p : Port) (tag) (s : State) : (cmdReject p tag s).mbx = s.mbx := rfl
@[simp] theorem cmdReject_pwr (p : Port) (tag) (s : State) : (cmdReject p tag s).pwr = s.pwr := rfl
@[simp] theorem cmdReject_isl (p : Port) (tag) (s : State) : (cmdReject p tag s).isl = s.isl := rfl
@[simp] theorem cmdReject_ctl (p : Port) (tag) (s : State) : (cmdReject p tag s).ctl = s.ctl := rfl
@[simp] theorem cmdReject_vlv (p : Port) (tag) (s : State) : (cmdReject p tag s).vlv = s.vlv := rfl
@[simp] theorem cmdReject_welt (p : Port) (tag) (s : State) : (cmdReject p tag s).welt = s.welt := rfl
@[simp] theorem cmdReject_row (p : Port) (tag) (s : State) : (cmdReject p tag s).row = s.row := rfl
@[simp] theorem cmdReject_stew (p : Port) (tag) (s : State) : (cmdReject p tag s).stew = s.stew := rfl
@[simp] theorem cmdReject_log (p : Port) (tag) (s : State) : (cmdReject p tag s).log = s.log := rfl
@[simp] theorem cmdReject_last (p : Port) (tag) (s : State) : (cmdReject p tag s).last = s.last := rfl
@[simp] theorem cmdReject_core (p : Port) (tag) (s : State) : (cmdReject p tag s).core = s.core := rfl
@[simp] theorem cmdReject_mem (p : Port) (tag) (s : State) : (cmdReject p tag s).mem = s.mem := rfl
@[simp] theorem cmdReject_lace (p : Port) (tag) (s : State) : (cmdReject p tag s).lace = s.lace := rfl
@[simp] theorem cmdReject_sec (p : Port) (tag) (s : State) : (cmdReject p tag s).sec = s.sec := rfl
@[simp] theorem cmdReject_health (p : Port) (tag) (s : State) : (cmdReject p tag s).health = s.health := rfl

@[simp] theorem finish_pending (e : Ctx) (st ws) (s : State) : (finish e st ws s).pending = s.pending := by unfold finish; split <;> rfl
@[simp] theorem finish_free (e : Ctx) (st ws) (s : State) : (finish e st ws s).free = s.free := by unfold finish; split <;> rfl
@[simp] theorem finish_mbx (e : Ctx) (st ws) (s : State) : (finish e st ws s).mbx = s.mbx := by unfold finish; split <;> rfl
@[simp] theorem finish_pwr (e : Ctx) (st ws) (s : State) : (finish e st ws s).pwr = s.pwr := by unfold finish; split <;> rfl
@[simp] theorem finish_isl (e : Ctx) (st ws) (s : State) : (finish e st ws s).isl = s.isl := by unfold finish; split <;> rfl
@[simp] theorem finish_ctl (e : Ctx) (st ws) (s : State) : (finish e st ws s).ctl = s.ctl := by unfold finish; split <;> rfl
@[simp] theorem finish_vlv (e : Ctx) (st ws) (s : State) : (finish e st ws s).vlv = s.vlv := by unfold finish; split <;> rfl
@[simp] theorem finish_welt (e : Ctx) (st ws) (s : State) : (finish e st ws s).welt = s.welt := by unfold finish; split <;> rfl
@[simp] theorem finish_row (e : Ctx) (st ws) (s : State) : (finish e st ws s).row = s.row := by unfold finish; split <;> rfl
@[simp] theorem finish_stew (e : Ctx) (st ws) (s : State) : (finish e st ws s).stew = s.stew := by unfold finish; split <;> rfl
@[simp] theorem finish_log (e : Ctx) (st ws) (s : State) : (finish e st ws s).log = s.log := by unfold finish; split <;> rfl
@[simp] theorem finish_last (e : Ctx) (st ws) (s : State) : (finish e st ws s).last = s.last := by unfold finish; split <;> rfl
@[simp] theorem finish_core (e : Ctx) (st ws) (s : State) : (finish e st ws s).core = s.core := by unfold finish; split <;> rfl
@[simp] theorem finish_mem (e : Ctx) (st ws) (s : State) : (finish e st ws s).mem = s.mem := by unfold finish; split <;> rfl
@[simp] theorem finish_lace (e : Ctx) (st ws) (s : State) : (finish e st ws s).lace = s.lace := by unfold finish; split <;> rfl
@[simp] theorem finish_sec (e : Ctx) (st ws) (s : State) : (finish e st ws s).sec = s.sec := by unfold finish; split <;> rfl
@[simp] theorem finish_health (e : Ctx) (st ws) (s : State) : (finish e st ws s).health = s.health := by unfold finish; split <;> rfl

@[simp] theorem islRaise_pending (c a) (s : State) : (islRaise c a s).pending = s.pending := rfl
@[simp] theorem islRaise_free (c a) (s : State) : (islRaise c a s).free = s.free := rfl
@[simp] theorem islRaise_port (c a) (s : State) : (islRaise c a s).port = s.port := rfl
@[simp] theorem islRaise_mbx (c a) (s : State) : (islRaise c a s).mbx = s.mbx := rfl
@[simp] theorem islRaise_pwr (c a) (s : State) : (islRaise c a s).pwr = s.pwr := rfl
@[simp] theorem islRaise_isl (c a) (s : State) : (islRaise c a s).isl = s.isl := rfl
@[simp] theorem islRaise_ctl (c a) (s : State) : (islRaise c a s).ctl = s.ctl := rfl
@[simp] theorem islRaise_vlv (c a) (s : State) : (islRaise c a s).vlv = s.vlv := rfl
@[simp] theorem islRaise_welt (c a) (s : State) : (islRaise c a s).welt = s.welt := rfl
@[simp] theorem islRaise_row (c a) (s : State) : (islRaise c a s).row = s.row := rfl
@[simp] theorem islRaise_stew (c a) (s : State) : (islRaise c a s).stew = s.stew := rfl
@[simp] theorem islRaise_last (c a) (s : State) : (islRaise c a s).last = s.last := rfl
@[simp] theorem islRaise_core (c a) (s : State) : (islRaise c a s).core = s.core := rfl
@[simp] theorem islRaise_mem (c a) (s : State) : (islRaise c a s).mem = s.mem := rfl
@[simp] theorem islRaise_lace (c a) (s : State) : (islRaise c a s).lace = s.lace := rfl
@[simp] theorem islRaise_sec (c a) (s : State) : (islRaise c a s).sec = s.sec := rfl
@[simp] theorem islRaise_health (c a) (s : State) : (islRaise c a s).health = s.health := rfl

@[simp] theorem mainRaise_pending (c a) (s : State) : (mainRaise c a s).pending = s.pending := by unfold mainRaise; split <;> rfl
@[simp] theorem mainRaise_free (c a) (s : State) : (mainRaise c a s).free = s.free := by unfold mainRaise; split <;> rfl
@[simp] theorem mainRaise_port (c a) (s : State) : (mainRaise c a s).port = s.port := by unfold mainRaise; split <;> rfl
@[simp] theorem mainRaise_mbx (c a) (s : State) : (mainRaise c a s).mbx = s.mbx := by unfold mainRaise; split <;> rfl
@[simp] theorem mainRaise_pwr (c a) (s : State) : (mainRaise c a s).pwr = s.pwr := by unfold mainRaise; split <;> rfl
@[simp] theorem mainRaise_isl (c a) (s : State) : (mainRaise c a s).isl = s.isl := by unfold mainRaise; split <;> rfl
@[simp] theorem mainRaise_ctl (c a) (s : State) : (mainRaise c a s).ctl = s.ctl := by unfold mainRaise; split <;> rfl
@[simp] theorem mainRaise_vlv (c a) (s : State) : (mainRaise c a s).vlv = s.vlv := by unfold mainRaise; split <;> rfl
@[simp] theorem mainRaise_welt (c a) (s : State) : (mainRaise c a s).welt = s.welt := by unfold mainRaise; split <;> rfl
@[simp] theorem mainRaise_row (c a) (s : State) : (mainRaise c a s).row = s.row := by unfold mainRaise; split <;> rfl
@[simp] theorem mainRaise_stew (c a) (s : State) : (mainRaise c a s).stew = s.stew := by unfold mainRaise; split <;> rfl
@[simp] theorem mainRaise_last (c a) (s : State) : (mainRaise c a s).last = s.last := by unfold mainRaise; split <;> rfl
@[simp] theorem mainRaise_core (c a) (s : State) : (mainRaise c a s).core = s.core := by unfold mainRaise; split <;> rfl
@[simp] theorem mainRaise_mem (c a) (s : State) : (mainRaise c a s).mem = s.mem := by unfold mainRaise; split <;> rfl
@[simp] theorem mainRaise_lace (c a) (s : State) : (mainRaise c a s).lace = s.lace := by unfold mainRaise; split <;> rfl
@[simp] theorem mainRaise_sec (c a) (s : State) : (mainRaise c a s).sec = s.sec := by unfold mainRaise; split <;> rfl
@[simp] theorem mainRaise_health (c a) (s : State) : (mainRaise c a s).health = s.health := by unfold mainRaise; split <;> rfl

@[simp] theorem raise_pending (c a) (s : State) : (raise c a s).pending = s.pending := by unfold raise; split <;> simp
@[simp] theorem raise_free (c a) (s : State) : (raise c a s).free = s.free := by unfold raise; split <;> simp
@[simp] theorem raise_port (c a) (s : State) : (raise c a s).port = s.port := by unfold raise; split <;> simp
@[simp] theorem raise_mbx (c a) (s : State) : (raise c a s).mbx = s.mbx := by unfold raise; split <;> simp
@[simp] theorem raise_pwr (c a) (s : State) : (raise c a s).pwr = s.pwr := by unfold raise; split <;> simp
@[simp] theorem raise_isl (c a) (s : State) : (raise c a s).isl = s.isl := by unfold raise; split <;> simp
@[simp] theorem raise_ctl (c a) (s : State) : (raise c a s).ctl = s.ctl := by unfold raise; split <;> simp
@[simp] theorem raise_vlv (c a) (s : State) : (raise c a s).vlv = s.vlv := by unfold raise; split <;> simp
@[simp] theorem raise_welt (c a) (s : State) : (raise c a s).welt = s.welt := by unfold raise; split <;> simp
@[simp] theorem raise_row (c a) (s : State) : (raise c a s).row = s.row := by unfold raise; split <;> simp
@[simp] theorem raise_stew (c a) (s : State) : (raise c a s).stew = s.stew := by unfold raise; split <;> simp
@[simp] theorem raise_last (c a) (s : State) : (raise c a s).last = s.last := by unfold raise; split <;> simp
@[simp] theorem raise_core (c a) (s : State) : (raise c a s).core = s.core := by unfold raise; split <;> simp
@[simp] theorem raise_mem (c a) (s : State) : (raise c a s).mem = s.mem := by unfold raise; split <;> simp
@[simp] theorem raise_lace (c a) (s : State) : (raise c a s).lace = s.lace := by unfold raise; split <;> simp
@[simp] theorem raise_sec (c a) (s : State) : (raise c a s).sec = s.sec := by unfold raise; split <;> simp
@[simp] theorem raise_health (c a) (s : State) : (raise c a s).health = s.health := by unfold raise; split <;> simp

@[simp] theorem pwrEvent_pending (b : Nat) (s : State) : (pwrEvent b s).pending = s.pending := rfl
@[simp] theorem pwrEvent_free (b : Nat) (s : State) : (pwrEvent b s).free = s.free := rfl
@[simp] theorem pwrEvent_port (b : Nat) (s : State) : (pwrEvent b s).port = s.port := rfl
@[simp] theorem pwrEvent_mbx (b : Nat) (s : State) : (pwrEvent b s).mbx = s.mbx := rfl
@[simp] theorem pwrEvent_isl (b : Nat) (s : State) : (pwrEvent b s).isl = s.isl := rfl
@[simp] theorem pwrEvent_ctl (b : Nat) (s : State) : (pwrEvent b s).ctl = s.ctl := rfl
@[simp] theorem pwrEvent_vlv (b : Nat) (s : State) : (pwrEvent b s).vlv = s.vlv := rfl
@[simp] theorem pwrEvent_welt (b : Nat) (s : State) : (pwrEvent b s).welt = s.welt := rfl
@[simp] theorem pwrEvent_row (b : Nat) (s : State) : (pwrEvent b s).row = s.row := rfl
@[simp] theorem pwrEvent_stew (b : Nat) (s : State) : (pwrEvent b s).stew = s.stew := rfl
@[simp] theorem pwrEvent_log (b : Nat) (s : State) : (pwrEvent b s).log = s.log := rfl
@[simp] theorem pwrEvent_last (b : Nat) (s : State) : (pwrEvent b s).last = s.last := rfl
@[simp] theorem pwrEvent_core (b : Nat) (s : State) : (pwrEvent b s).core = s.core := rfl
@[simp] theorem pwrEvent_mem (b : Nat) (s : State) : (pwrEvent b s).mem = s.mem := rfl
@[simp] theorem pwrEvent_lace (b : Nat) (s : State) : (pwrEvent b s).lace = s.lace := rfl
@[simp] theorem pwrEvent_sec (b : Nat) (s : State) : (pwrEvent b s).sec = s.sec := rfl
@[simp] theorem pwrEvent_health (b : Nat) (s : State) : (pwrEvent b s).health = s.health := rfl

@[simp] theorem deviceWake_pending (b : Nat) (s : State) : (deviceWake b s).pending = s.pending := by unfold deviceWake; split <;> rfl
@[simp] theorem deviceWake_free (b : Nat) (s : State) : (deviceWake b s).free = s.free := by unfold deviceWake; split <;> rfl
@[simp] theorem deviceWake_port (b : Nat) (s : State) : (deviceWake b s).port = s.port := by unfold deviceWake; split <;> rfl
@[simp] theorem deviceWake_mbx (b : Nat) (s : State) : (deviceWake b s).mbx = s.mbx := by unfold deviceWake; split <;> rfl
@[simp] theorem deviceWake_isl (b : Nat) (s : State) : (deviceWake b s).isl = s.isl := by unfold deviceWake; split <;> rfl
@[simp] theorem deviceWake_ctl (b : Nat) (s : State) : (deviceWake b s).ctl = s.ctl := by unfold deviceWake; split <;> rfl
@[simp] theorem deviceWake_vlv (b : Nat) (s : State) : (deviceWake b s).vlv = s.vlv := by unfold deviceWake; split <;> rfl
@[simp] theorem deviceWake_welt (b : Nat) (s : State) : (deviceWake b s).welt = s.welt := by unfold deviceWake; split <;> rfl
@[simp] theorem deviceWake_row (b : Nat) (s : State) : (deviceWake b s).row = s.row := by unfold deviceWake; split <;> rfl
@[simp] theorem deviceWake_stew (b : Nat) (s : State) : (deviceWake b s).stew = s.stew := by unfold deviceWake; split <;> rfl
@[simp] theorem deviceWake_log (b : Nat) (s : State) : (deviceWake b s).log = s.log := by unfold deviceWake; split <;> rfl
@[simp] theorem deviceWake_last (b : Nat) (s : State) : (deviceWake b s).last = s.last := by unfold deviceWake; split <;> rfl
@[simp] theorem deviceWake_core (b : Nat) (s : State) : (deviceWake b s).core = s.core := by unfold deviceWake; split <;> rfl
@[simp] theorem deviceWake_mem (b : Nat) (s : State) : (deviceWake b s).mem = s.mem := by unfold deviceWake; split <;> rfl
@[simp] theorem deviceWake_lace (b : Nat) (s : State) : (deviceWake b s).lace = s.lace := by unfold deviceWake; split <;> rfl
@[simp] theorem deviceWake_sec (b : Nat) (s : State) : (deviceWake b s).sec = s.sec := by unfold deviceWake; split <;> rfl
@[simp] theorem deviceWake_health (b : Nat) (s : State) : (deviceWake b s).health = s.health := by unfold deviceWake; split <;> rfl

@[simp] theorem mastersReset_pending (ms) (s : State) : (mastersReset ms s).pending = s.pending := rfl
@[simp] theorem mastersReset_free (ms) (s : State) : (mastersReset ms s).free = s.free := rfl
@[simp] theorem mastersReset_pwr (ms) (s : State) : (mastersReset ms s).pwr = s.pwr := rfl
@[simp] theorem mastersReset_isl (ms) (s : State) : (mastersReset ms s).isl = s.isl := rfl
@[simp] theorem mastersReset_ctl (ms) (s : State) : (mastersReset ms s).ctl = s.ctl := rfl
@[simp] theorem mastersReset_vlv (ms) (s : State) : (mastersReset ms s).vlv = s.vlv := rfl
@[simp] theorem mastersReset_welt (ms) (s : State) : (mastersReset ms s).welt = s.welt := rfl
@[simp] theorem mastersReset_row (ms) (s : State) : (mastersReset ms s).row = s.row := rfl
@[simp] theorem mastersReset_stew (ms) (s : State) : (mastersReset ms s).stew = s.stew := rfl
@[simp] theorem mastersReset_log (ms) (s : State) : (mastersReset ms s).log = s.log := rfl
@[simp] theorem mastersReset_last (ms) (s : State) : (mastersReset ms s).last = s.last := rfl
@[simp] theorem mastersReset_core (ms) (s : State) : (mastersReset ms s).core = s.core := rfl
@[simp] theorem mastersReset_mem (ms) (s : State) : (mastersReset ms s).mem = s.mem := rfl
@[simp] theorem mastersReset_lace (ms) (s : State) : (mastersReset ms s).lace = s.lace := rfl
@[simp] theorem mastersReset_sec (ms) (s : State) : (mastersReset ms s).sec = s.sec := rfl
@[simp] theorem mastersReset_health (ms) (s : State) : (mastersReset ms s).health = s.health := rfl

end Sys2Proof.Machine
end

