-- ==== Sys2Proof/Laws/Ops.lean ====
section
/-! SUPPORT. What the shared operations can do. -/

namespace Sys2Proof.Machine

/-- With V_ISL a meaning answers the state it names. -/
theorem live_on (s t : State) (h : s.isl.on = true) : live s t = .next t := by simp [live, h]

/-- Without V_ISL it answers the state as it was. -/
theorem live_off (s t : State) (h : s.isl.on = false) : live s t = .next s := by simp [live, h]

/-- Every meaning answers a next state. -/
theorem live_next (s t : State) : ∃ u, live s t = .next u := ⟨_, rfl⟩

/-! ## Opcodes -/

/-- The state in which the handler of a ready packet runs. -/
def running (op : Nat) (r : Req) (s : State) : State := s.onPort fun b => { b with ctx := [ctxOf op r s] }

/-- A ready packet is posted, starts, and is answered as its chapter says. -/
theorem opcode_ready (op : Nat) (h : Ctx → State → State × Answer) (r : Req) (s : State) (R : Ready op r s) :
    opcode op h r s = .next
      (match (h (ctxOf op r s) (running op r s)).2 with
       | some (st, ws) => finish (ctxOf op r s) st ws (h (ctxOf op r s) (running op r s)).1
       | none => (h (ctxOf op r s) (running op r s)).1) := by
  obtain ⟨on, reach, idle, free, checks, served, peer⟩ := R
  have hf : inFlight s r.port r.tag = false := by simp [inFlight, free, idle]
  let e0 : Ctx := { port := r.port, tag := r.tag, ver := replyVer r.ver, op := op, words := keptWords op r.words,
                    inRam := serverOf s r.port op r.words != .cobbler }
  have hp : postPacket r.port r.ver op r.words.length r.tag r.words s = s.onPort fun b => { b with ctx := [e0] } := by
    unfold postPacket
    rw [hf, checks]
    simp [State.onPort, idle, e0]
  have hw : waitingCtx s r op = none := by simp [waitingCtx, idle]
  have hw1 : waitingCtx (s.onPort fun b => { b with ctx := [e0] }) r op = some e0 := by
    simp [waitingCtx, e0]
  have hg : serverGone (s.onPort fun b => { b with ctx := [e0] }) e0 = false := by
    have : serverGone (s.onPort fun b => { b with ctx := [e0] }) e0 = (serverOf s r.port op (keptWords op r.words) == .off) := rfl
    rw [this]; simp [served]
  have hu : peerUp (s.onPort fun b => { b with ctx := [e0] }) e0.op e0.words = true := peer
  unfold opcode runOp
  rw [live_on _ _ on, reach, hw]
  simp only [Bool.not_true, Bool.false_eq_true, if_false, hp, hw1]
  have hc : canStart (s.onPort fun b => { b with ctx := [e0] }).port.ctx e0 = true := by simp [canStart]
  rw [if_pos hc]
  unfold startCtx
  rw [hg, hu]
  simp only [Bool.false_eq_true, if_false, Bool.not_true]
  have hr : ((s.onPort fun b => { b with ctx := [e0] }).onPort fun b =>
      { b with ctx := replaceCtx e0 { e0 with started := true, peer := false } b.ctx }) = running op r s := by
    simp [State.onPort, running, replaceCtx, ctxOf, e0]
  rw [hr]
  rfl

/-! ## Sparse tables -/

theorem sget_sput_self {α : Type} (m : SMap α) (k : Nat) (x : α) : sget (sput m k x) k = some x := by
  induction m with
  | nil => simp [sput, sget]
  | cons p t ih =>
    obtain ⟨j, y⟩ := p
    by_cases h : k < j
    · simp [sput, h, sget]
    · by_cases h2 : k = j
      · simp [sput, h2, sget]
      · have h3 : ¬ j = k := fun e => h2 e.symm
        simp [sput, h, h2, sget, h3, ih]

theorem sget_sput_ne {α : Type} (m : SMap α) (k l : Nat) (x : α) (hn : l ≠ k) : sget (sput m k x) l = sget m l := by
  have hk : ¬ k = l := fun e => hn e.symm
  induction m with
  | nil => simp [sput, sget, hk]
  | cons p t ih =>
    obtain ⟨j, y⟩ := p
    by_cases h : k < j
    · simp [sput, h, sget, hk]
    · by_cases h2 : k = j
      · subst h2; simp [sput, sget, hk]
      · have hs : sput ((j, y) :: t) k x = (j, y) :: sput t k x := by simp [sput, h, h2]
        rw [hs]
        simp only [sget, ih]

/-! ## Windows and replies -/

@[simp] theorem State.onWin_win_self (p : Port) (f) (s : State) : (s.onWin p f).win p = f (s.win p) := by
  cases p <;> rfl

theorem State.onWin_win_ne (p q : Port) (f) (s : State) (h : q ≠ p) : (s.onWin p f).win q = s.win q := by
  cases p <;> cases q <;> first | rfl | exact absurd rfl h

/-- Raising vector 0 touches no window and no waiting command, whether or not the condition rises. -/
theorem evalIrq_port (s : State) : (evalIrq s).port =
    { (if irqCond s .host && !s.port.hostIrq then raiseVec 0 s.port else s.port) with hostIrq := irqCond s .host } := rfl
@[simp] theorem evalIrq_win (s : State) (p : Port) : (evalIrq s).win p = s.win p := by
  cases p <;> (simp only [State.win, evalIrq_port]; split <;> rfl)
@[simp] theorem evalIrq_ctx (s : State) : (evalIrq s).port.ctx = s.port.ctx := by
  simp only [evalIrq_port]; split <;> rfl
@[simp] theorem State.onWin_ctx (p : Port) (f) (s : State) : (s.onWin p f).port.ctx = s.port.ctx := by cases p <;> rfl
@[simp] theorem putReply_ctx (p : Port) (tag r) (s : State) : (putReply p tag r s).port.ctx = s.port.ctx := by
  simp [putReply]

theorem putReply_slot (p : Port) (tag : BitVec 6) (r) (s : State) :
    sget ((putReply p tag r s).win p).replies tag.toNat = some r := by
  simp [putReply, sget_sput_self]

theorem putReply_win_ne (p q : Port) (tag : BitVec 6) (r) (s : State) (h : q ≠ p) :
    (putReply p tag r s).win q = s.win q := by
  simp [putReply, State.onWin_win_ne _ _ _ _ h]

/-- The reply of a command that no reset silenced lies in its slot. -/
theorem finish_replied (op : Nat) (r : Req) (s0 t : State) (st : Nat) (ws : List Word) :
    Replied op r st ws (finish (ctxOf op r s0) st ws t) := by
  unfold finish Replied
  simpa [ctxOf] using putReply_slot r.port r.tag
    { ver := replyVer r.ver, opcode := op, status := st, words := ws }
    (t.onPort fun b => { b with ctx := b.ctx.eraseP fun x => x.port == r.port && x.tag == r.tag && x.silent == false })

/-- Its entry is gone when it was the only one. -/
theorem finish_served (op : Nat) (r : Req) (s0 t : State) (st : Nat) (ws : List Word)
    (h : t.port.ctx = [ctxOf op r s0]) : Served (finish (ctxOf op r s0) st ws t) := by
  unfold finish Served
  simp [ctxOf, h]

/-- The other windows stay. -/
theorem finish_win_ne (op : Nat) (r : Req) (s0 t : State) (st : Nat) (ws : List Word) (q : Port) (h : q ≠ r.port) :
    (finish (ctxOf op r s0) st ws t).win q = t.win q := by
  unfold finish
  simp only [ctxOf, Bool.false_eq_true, if_false]
  rw [putReply_win_ne _ _ _ _ _ h]
  cases q <;> rfl

/-- A ready opcode completes: its handler's state with the reply in its slot, the entry gone and the other windows
as the handler left them. -/
theorem opcode_ends (op : Nat) (h : Ctx → State → State × Answer) (c : Instr) (r : Req) (s t : State) (st : Nat)
    (ws : List Word) (P : State → Prop) (hc : exec c s = opcode op h r s) (R : Ready op r s)
    (hh : h (ctxOf op r s) (running op r s) = (t, some (st, ws))) (hx : t.port.ctx = [ctxOf op r s])
    (hw : ∀ q, q ≠ r.port → t.win q = s.win q) (hP : P (finish (ctxOf op r s) st ws t)) :
    Ends op c r st ws s P := by
  refine ⟨finish (ctxOf op r s) st ws t, ?_, finish_served op r s t st ws hx, finish_replied op r s t st ws, ?_, hP⟩
  · rw [hc, opcode_ready op h r s R, hh]
  · intro q hq
    rw [finish_win_ne op r s t st ws q hq, hw q hq]

/-- A ready opcode whose handler changes nothing is answered with what the handler says. -/
theorem opcode_answered (op : Nat) (h : Ctx → State → State × Answer) (c : Instr) (r : Req) (s : State) (st : Nat)
    (ws : List Word) (hc : exec c s = opcode op h r s) (R : Ready op r s)
    (hh : h (ctxOf op r s) (running op r s) = (running op r s, some (st, ws))) : Answered op c r st ws s := by
  obtain ⟨t, h1, h2, h3, h4, h5⟩ := opcode_ends op h c r s (running op r s) st ws (fun t => OnlyPorts s t) hc R hh rfl
    (fun q _ => by cases q <;> rfl) (by unfold OnlyPorts finish; simp only [ctxOf, Bool.false_eq_true, if_false]; rfl)
  exact ⟨t, h1, h5, h2, h3, h4⟩

end Sys2Proof.Machine
end

