-- ==== Sys2Proof/Laws/Memory.lean ====
section
/-! SUPPORT. Sparse tables and the two memories: reads after writes, and the canonical form that every memory
operation keeps. -/

namespace Sys2Proof.Machine

/-! ## Sorted tables -/

/-- A lower bound of a sorted table. -/
theorem sortedFrom_mono {α : Type} (m : SMap α) (b c : Nat) (hbc : b ≤ c) (h : sortedFrom (some c) m = true) :
    sortedFrom (some b) m = true := by
  cases m with
  | nil => rfl
  | cons x t =>
    simp only [sortedFrom, Bool.and_eq_true, decide_eq_true_eq] at h ⊢
    exact ⟨by omega, h.2⟩

/-- A table sorted above a bound is sorted. -/
theorem sortedFrom_none {α : Type} (m : SMap α) (b : Nat) (h : sortedFrom (some b) m = true) : sortedFrom none m = true := by
  cases m with
  | nil => rfl
  | cons x t =>
    simp only [sortedFrom, Bool.and_eq_true, decide_eq_true_eq] at h ⊢
    exact h.2

theorem sput_sortedFrom {α : Type} (m : SMap α) (b k : Nat) (x : α) (hk : b < k) (h : sortedFrom (some b) m = true) :
    sortedFrom (some b) (sput m k x) = true := by
  induction m generalizing b with
  | nil => simpa [sput, sortedFrom] using hk
  | cons y t ih =>
    simp only [sortedFrom, Bool.and_eq_true, decide_eq_true_eq] at h
    unfold sput
    split
    · simp [sortedFrom, *]
    · split
      · rename_i he; subst he; simp [sortedFrom, hk, h.2]
      · simp only [sortedFrom, Bool.and_eq_true, decide_eq_true_eq]
        exact ⟨h.1, ih _ (by omega) h.2⟩

/-- Setting a key keeps a table sorted. -/
theorem sput_sorted {α : Type} (m : SMap α) (k : Nat) (x : α) (h : sortedFrom none m = true) :
    sortedFrom none (sput m k x) = true := by
  cases m with
  | nil => rfl
  | cons y t =>
    simp only [sortedFrom] at h
    unfold sput
    split
    · simp [sortedFrom, *]
    · split
      · rename_i he; subst he; simpa [sortedFrom] using h
      · simp only [sortedFrom]
        exact sput_sortedFrom _ _ _ _ (by omega) h

theorem sdel_sortedFrom {α : Type} (m : SMap α) (b k : Nat) (h : sortedFrom (some b) m = true) :
    sortedFrom (some b) (sdel m k) = true := by
  induction m generalizing b with
  | nil => rfl
  | cons y t ih =>
    simp only [sortedFrom, Bool.and_eq_true, decide_eq_true_eq] at h
    unfold sdel
    split
    · exact sortedFrom_mono _ _ _ (by omega) h.2
    · simp only [sortedFrom, Bool.and_eq_true, decide_eq_true_eq]
      exact ⟨h.1, ih _ h.2⟩

/-- Removing a key keeps a table sorted. -/
theorem sdel_sorted {α : Type} (m : SMap α) (k : Nat) (h : sortedFrom none m = true) :
    sortedFrom none (sdel m k) = true := by
  cases m with
  | nil => rfl
  | cons y t =>
    simp only [sortedFrom] at h
    unfold sdel
    split
    · exact sortedFrom_none _ _ h
    · simpa [sortedFrom] using sdel_sortedFrom _ _ _ h

theorem filter_sortedFrom {α : Type} (m : SMap α) (b : Nat) (p : Nat × α → Bool) (h : sortedFrom (some b) m = true) :
    sortedFrom (some b) (m.filter p) = true := by
  induction m generalizing b with
  | nil => rfl
  | cons y t ih =>
    simp only [sortedFrom, Bool.and_eq_true, decide_eq_true_eq] at h
    by_cases hp : p y = true
    · simp only [List.filter_cons_of_pos hp, sortedFrom, Bool.and_eq_true, decide_eq_true_eq]
      exact ⟨h.1, ih _ h.2⟩
    · simp only [List.filter_cons_of_neg hp]
      exact ih _ (sortedFrom_mono _ _ _ (by omega) h.2)

/-- A part of a sorted table is sorted. -/
theorem filter_sorted {α : Type} (m : SMap α) (p : Nat × α → Bool) (h : sortedFrom none m = true) :
    sortedFrom none (m.filter p) = true := by
  cases m with
  | nil => rfl
  | cons y t =>
    simp only [sortedFrom] at h
    by_cases hp : p y = true
    · simpa [List.filter_cons_of_pos hp, sortedFrom] using filter_sortedFrom _ _ p h
    · simp only [List.filter_cons_of_neg hp]
      exact sortedFrom_none _ _ (filter_sortedFrom _ _ p h)

theorem sget_below {α : Type} (m : SMap α) (b k : Nat) (hk : k ≤ b) (h : sortedFrom (some b) m = true) : sget m k = none := by
  induction m generalizing b with
  | nil => rfl
  | cons y t ih =>
    simp only [sortedFrom, Bool.and_eq_true, decide_eq_true_eq] at h
    unfold sget
    rw [if_neg (by omega)]
    exact ih _ (by omega) h.2

theorem sget_sdel_ne {α : Type} (m : SMap α) (j k : Nat) (hjk : j ≠ k) : sget (sdel m j) k = sget m k := by
  induction m with
  | nil => rfl
  | cons y t ih =>
    simp only [sdel, sget]
    split
    · rename_i he; subst he; rw [if_neg hjk]
    · simp only [sget]; split
      · rfl
      · exact ih

theorem sget_sdel_self {α : Type} (m : SMap α) (k : Nat) (h : sortedFrom none m = true) : sget (sdel m k) k = none := by
  have go : ∀ (m : SMap α) (b : Nat), sortedFrom (some b) m = true → sget (sdel m k) k = none := by
    intro m
    induction m with
    | nil => intros; rfl
    | cons y t ih =>
      intro b h
      simp only [sortedFrom, Bool.and_eq_true, decide_eq_true_eq] at h
      unfold sdel
      split
      · rename_i he; exact sget_below _ _ _ (by omega) h.2
      · rename_i he; simp only [sget, if_neg he]; exact ih _ h.2
  cases m with
  | nil => rfl
  | cons y t =>
    simp only [sortedFrom] at h
    unfold sdel
    split
    · rename_i he; exact sget_below _ _ _ (by omega) h
    · rename_i he; simp only [sget, if_neg he]; exact go _ _ h

/-! ## Memories -/

theorem Memory.wf_iff (m : Mem) : Memory.wf m = true ↔ sortedFrom none m = true ∧ ∀ c ∈ m, c.2 ≠ 0 := by
  simp [Memory.wf, List.all_eq_true]

theorem sput_all (m : Mem) (k : Nat) (x : Byte) (hx : x ≠ 0) (h : ∀ c ∈ m, c.2 ≠ 0) : ∀ c ∈ sput m k x, c.2 ≠ 0 := by
  induction m with
  | nil => simpa [sput] using hx
  | cons y t ih =>
    have ht : ∀ c ∈ t, c.2 ≠ 0 := fun c hc => h c (List.mem_cons_of_mem _ hc)
    unfold sput
    split
    · intro c hc
      rcases List.mem_cons.1 hc with rfl | hc
      · exact hx
      · exact h c hc
    · split
      · intro c hc
        rcases List.mem_cons.1 hc with rfl | hc
        · exact hx
        · exact ht c hc
      · intro c hc
        rcases List.mem_cons.1 hc with rfl | hc
        · exact h _ (List.mem_cons_self ..)
        · exact ih ht c hc

theorem sdel_all (m : Mem) (k : Nat) (h : ∀ c ∈ m, c.2 ≠ 0) : ∀ c ∈ sdel m k, c.2 ≠ 0 := by
  induction m with
  | nil => simp [sdel]
  | cons y t ih =>
    have ht : ∀ c ∈ t, c.2 ≠ 0 := fun c hc => h c (List.mem_cons_of_mem _ hc)
    unfold sdel
    split
    · exact ht
    · intro c hc
      rcases List.mem_cons.1 hc with rfl | hc
      · exact h _ (List.mem_cons_self ..)
      · exact ih ht c hc

/-- A byte stored keeps the canonical form. -/
theorem Mem.set_wf (m : Mem) (a : Nat) (b : Byte) (h : Memory.wf m = true) : Memory.wf (m.set a b) = true := by
  rw [Memory.wf_iff] at h ⊢
  unfold Mem.set
  split
  · exact ⟨sdel_sorted _ _ h.1, sdel_all _ _ h.2⟩
  · exact ⟨sput_sorted _ _ _ h.1, sput_all _ _ _ ‹_› h.2⟩

/-- Bytes stored keep it. -/
theorem Mem.write_wf (m : Mem) (a : Nat) (l : List Byte) (h : Memory.wf m = true) : Memory.wf (m.write a l) = true := by
  induction l generalizing m a with
  | nil => exact h
  | cons b t ih => exact ih _ _ (Mem.set_wf _ _ _ h)

/-- A part of a memory keeps it. -/
theorem Mem.filter_wf (m : Mem) (p : Host.Cell → Bool) (h : Memory.wf m = true) : Memory.wf (m.filter p) = true := by
  rw [Memory.wf_iff] at h ⊢
  exact ⟨filter_sorted _ _ h.1, fun c hc => h.2 c ((List.mem_filter.1 hc).1)⟩

/-- Bytes wiped keep it. -/
theorem Mem.clear_wf (m : Mem) (lo hi : Nat) (h : Memory.wf m = true) : Memory.wf (m.clear lo hi) = true :=
  Mem.filter_wf _ _ h

/-- A byte stored reads back. -/
theorem Mem.get_set_self (m : Mem) (a : Nat) (b : Byte) (h : Memory.wf m = true) : (m.set a b).get a = b := by
  rw [Memory.wf_iff] at h
  unfold Mem.set Mem.get
  split
  · rename_i hb; rw [sget_sdel_self _ _ h.1, hb]; rfl
  · rw [sget_sput_self]; rfl

/-- A byte stored leaves every other byte alone. -/
theorem Mem.get_set_ne (m : Mem) (a c : Nat) (b : Byte) (hc : c ≠ a) : (m.set a b).get c = m.get c := by
  unfold Mem.set Mem.get
  split
  · rw [sget_sdel_ne _ _ _ (Ne.symm hc)]
  · rw [sget_sput_ne _ _ _ _ hc]

/-- Bytes stored leave every byte outside them alone. -/
theorem Mem.get_write_out (m : Mem) (a c : Nat) (l : List Byte) (h : c < a ∨ a + l.length ≤ c) :
    (m.write a l).get c = m.get c := by
  induction l generalizing m a with
  | nil => rfl
  | cons b t ih =>
    simp only [List.length_cons] at h
    rw [Mem.write, ih _ _ (by omega), Mem.get_set_ne _ _ _ _ (by omega)]

/-- Bytes stored read back. -/
theorem Mem.get_write_in (m : Mem) (a i : Nat) (l : List Byte) (hi : i < l.length) (h : Memory.wf m = true) :
    (m.write a l).get (a + i) = l[i] := by
  induction l generalizing m a i with
  | nil => simp at hi
  | cons b t ih =>
    rw [Mem.write]
    cases i with
    | zero =>
      rw [Mem.get_write_out _ _ _ _ (by omega)]
      simpa using Mem.get_set_self m a b h
    | succ k =>
      have hk : k < t.length := by simpa using hi
      have := ih (m.set a b) (a + 1) k hk (Mem.set_wf _ _ _ h)
      rw [show a + (k + 1) = a + 1 + k by omega]
      simpa using this

end Sys2Proof.Machine
end

