-- ==== Sys2Proof/Laws/PerInstr.lean ====
section
/-! SUPPORT. Laws of every command as syntax: a command that carries a packet is well formed exactly when its
packet is. -/

namespace Sys2Proof.Laws.CmdWf

/-- The packet that an opcode's row carries. -/
def packet : Instr → Option Req
  | .getIdentity r => some r
  | .getVersions r => some r
  | .cmdAbort r => some r
  | .cmdNop r => some r
  | .pwrStatus r => some r
  | .pwrStateSet r => some r
  | .pwrCapSet r => some r
  | .pwrRailStatus r => some r
  | .resetDomain r => some r
  | .coolStatus r => some r
  | .coolForecastGet r => some r
  | .toecapSet r => some r
  | .loopConfig r => some r
  | .loopMode r => some r
  | .loopCoeffSet r => some r
  | .loopStatus r => some r
  | .valveCmd r => some r
  | .pwmSet r => some r
  | .pinFuncSet r => some r
  | .weltStatus r => some r
  | .weltArm r => some r
  | .rowConfig r => some r
  | .rowStatus r => some r
  | .stewardStatus r => some r
  | .stewardConfig r => some r
  | .lastLoad r => some r
  | .lastCommit r => some r
  | .lastJobSet r => some r
  | .lastStart r => some r
  | .lastSwitch r => some r
  | .lastPause r => some r
  | .lastResume r => some r
  | .lastUnload r => some r
  | .lastStatus r => some r
  | .memStatus r => some r
  | .memScrubSet r => some r
  | .memPoolExport r => some r
  | .coreSwap r => some r
  | .hbmRetire r => some r
  | .repairStatus r => some r
  | .laceStatus r => some r
  | .laceIdSet r => some r
  | .laceTrain r => some r
  | .laceConfig r => some r
  | .laceRetire r => some r
  | .logStatus r => some r
  | .logRead r => some r
  | .timeGet r => some r
  | .timeSet r => some r
  | .fwLoad r => some r
  | .fwCommit r => some r
  | .fwActivate r => some r
  | .fwStatus r => some r
  | .secAttest r => some r
  | .secLifecycleSet r => some r
  | .secDebugUnlock r => some r
  | .secKeyStatus r => some r
  | .coreSelftest r => some r
  | .sensorCal r => some r
  | .calTableLoad r => some r
  | .loopTest r => some r
  | .captureRead r => some r
  | .valveTest r => some r
  | _ => none

/-- A command that carries a packet is well formed exactly when its packet is. -/
def Statement (i : Instr) : Prop := ∀ r, packet i = some r → i.wf = r.wf

theorem getIdentity (r : Req) : Statement (.getIdentity r) := fun _ h => by cases h; rfl
theorem getVersions (r : Req) : Statement (.getVersions r) := fun _ h => by cases h; rfl
theorem cmdAbort (r : Req) : Statement (.cmdAbort r) := fun _ h => by cases h; rfl
theorem cmdNop (r : Req) : Statement (.cmdNop r) := fun _ h => by cases h; rfl
theorem pwrStatus (r : Req) : Statement (.pwrStatus r) := fun _ h => by cases h; rfl
theorem pwrStateSet (r : Req) : Statement (.pwrStateSet r) := fun _ h => by cases h; rfl
theorem pwrCapSet (r : Req) : Statement (.pwrCapSet r) := fun _ h => by cases h; rfl
theorem pwrRailStatus (r : Req) : Statement (.pwrRailStatus r) := fun _ h => by cases h; rfl
theorem resetDomain (r : Req) : Statement (.resetDomain r) := fun _ h => by cases h; rfl
theorem coolStatus (r : Req) : Statement (.coolStatus r) := fun _ h => by cases h; rfl
theorem coolForecastGet (r : Req) : Statement (.coolForecastGet r) := fun _ h => by cases h; rfl
theorem toecapSet (r : Req) : Statement (.toecapSet r) := fun _ h => by cases h; rfl
theorem loopConfig (r : Req) : Statement (.loopConfig r) := fun _ h => by cases h; rfl
theorem loopMode (r : Req) : Statement (.loopMode r) := fun _ h => by cases h; rfl
theorem loopCoeffSet (r : Req) : Statement (.loopCoeffSet r) := fun _ h => by cases h; rfl
theorem loopStatus (r : Req) : Statement (.loopStatus r) := fun _ h => by cases h; rfl
theorem valveCmd (r : Req) : Statement (.valveCmd r) := fun _ h => by cases h; rfl
theorem pwmSet (r : Req) : Statement (.pwmSet r) := fun _ h => by cases h; rfl
theorem pinFuncSet (r : Req) : Statement (.pinFuncSet r) := fun _ h => by cases h; rfl
theorem weltStatus (r : Req) : Statement (.weltStatus r) := fun _ h => by cases h; rfl
theorem weltArm (r : Req) : Statement (.weltArm r) := fun _ h => by cases h; rfl
theorem rowConfig (r : Req) : Statement (.rowConfig r) := fun _ h => by cases h; rfl
theorem rowStatus (r : Req) : Statement (.rowStatus r) := fun _ h => by cases h; rfl
theorem stewardStatus (r : Req) : Statement (.stewardStatus r) := fun _ h => by cases h; rfl
theorem stewardConfig (r : Req) : Statement (.stewardConfig r) := fun _ h => by cases h; rfl
theorem lastLoad (r : Req) : Statement (.lastLoad r) := fun _ h => by cases h; rfl
theorem lastCommit (r : Req) : Statement (.lastCommit r) := fun _ h => by cases h; rfl
theorem lastJobSet (r : Req) : Statement (.lastJobSet r) := fun _ h => by cases h; rfl
theorem lastStart (r : Req) : Statement (.lastStart r) := fun _ h => by cases h; rfl
theorem lastSwitch (r : Req) : Statement (.lastSwitch r) := fun _ h => by cases h; rfl
theorem lastPause (r : Req) : Statement (.lastPause r) := fun _ h => by cases h; rfl
theorem lastResume (r : Req) : Statement (.lastResume r) := fun _ h => by cases h; rfl
theorem lastUnload (r : Req) : Statement (.lastUnload r) := fun _ h => by cases h; rfl
theorem lastStatus (r : Req) : Statement (.lastStatus r) := fun _ h => by cases h; rfl
theorem memStatus (r : Req) : Statement (.memStatus r) := fun _ h => by cases h; rfl
theorem memScrubSet (r : Req) : Statement (.memScrubSet r) := fun _ h => by cases h; rfl
theorem memPoolExport (r : Req) : Statement (.memPoolExport r) := fun _ h => by cases h; rfl
theorem coreSwap (r : Req) : Statement (.coreSwap r) := fun _ h => by cases h; rfl
theorem hbmRetire (r : Req) : Statement (.hbmRetire r) := fun _ h => by cases h; rfl
theorem repairStatus (r : Req) : Statement (.repairStatus r) := fun _ h => by cases h; rfl
theorem laceStatus (r : Req) : Statement (.laceStatus r) := fun _ h => by cases h; rfl
theorem laceIdSet (r : Req) : Statement (.laceIdSet r) := fun _ h => by cases h; rfl
theorem laceTrain (r : Req) : Statement (.laceTrain r) := fun _ h => by cases h; rfl
theorem laceConfig (r : Req) : Statement (.laceConfig r) := fun _ h => by cases h; rfl
theorem laceRetire (r : Req) : Statement (.laceRetire r) := fun _ h => by cases h; rfl
theorem logStatus (r : Req) : Statement (.logStatus r) := fun _ h => by cases h; rfl
theorem logRead (r : Req) : Statement (.logRead r) := fun _ h => by cases h; rfl
theorem timeGet (r : Req) : Statement (.timeGet r) := fun _ h => by cases h; rfl
theorem timeSet (r : Req) : Statement (.timeSet r) := fun _ h => by cases h; rfl
theorem fwLoad (r : Req) : Statement (.fwLoad r) := fun _ h => by cases h; rfl
theorem fwCommit (r : Req) : Statement (.fwCommit r) := fun _ h => by cases h; rfl
theorem fwActivate (r : Req) : Statement (.fwActivate r) := fun _ h => by cases h; rfl
theorem fwStatus (r : Req) : Statement (.fwStatus r) := fun _ h => by cases h; rfl
theorem secAttest (r : Req) : Statement (.secAttest r) := fun _ h => by cases h; rfl
theorem secLifecycleSet (r : Req) : Statement (.secLifecycleSet r) := fun _ h => by cases h; rfl
theorem secDebugUnlock (r : Req) : Statement (.secDebugUnlock r) := fun _ h => by cases h; rfl
theorem secKeyStatus (r : Req) : Statement (.secKeyStatus r) := fun _ h => by cases h; rfl
theorem coreSelftest (r : Req) : Statement (.coreSelftest r) := fun _ h => by cases h; rfl
theorem sensorCal (r : Req) : Statement (.sensorCal r) := fun _ h => by cases h; rfl
theorem calTableLoad (r : Req) : Statement (.calTableLoad r) := fun _ h => by cases h; rfl
theorem loopTest (r : Req) : Statement (.loopTest r) := fun _ h => by cases h; rfl
theorem captureRead (r : Req) : Statement (.captureRead r) := fun _ h => by cases h; rfl
theorem valveTest (r : Req) : Statement (.valveTest r) := fun _ h => by cases h; rfl
theorem cmdReqWrite a0 a1 : Statement (.cmdReqWrite a0 a1) := fun _ h => by cases h
theorem cmdDataInWrite a0 a1 : Statement (.cmdDataInWrite a0 a1) := fun _ h => by cases h
theorem cmdDataOutRead a0 : Statement (.cmdDataOutRead a0) := fun _ h => by cases h
theorem cmdDoneRelease a0 a1 a2 : Statement (.cmdDoneRelease a0 a1 a2) := fun _ h => by cases h
theorem cmdPeerTimeout a0 a1 : Statement (.cmdPeerTimeout a0 a1) := fun _ h => by cases h
theorem trayDataWaitTimeout : Statement .trayDataWaitTimeout := fun _ h => by cases h
theorem trayWriteBufferDrain : Statement .trayWriteBufferDrain := fun _ h => by cases h
theorem traySlowReadComplete : Statement .traySlowReadComplete := fun _ h => by cases h
theorem trayLowHalfRead a0 : Statement (.trayLowHalfRead a0) := fun _ h => by cases h
theorem trayLowHalfWrite a0 a1 : Statement (.trayLowHalfWrite a0 a1) := fun _ h => by cases h
theorem trayPortReset a0 : Statement (.trayPortReset a0) := fun _ h => by cases h
theorem perstAssert : Statement .perstAssert := fun _ h => by cases h
theorem perstDeassert : Statement .perstDeassert := fun _ h => by cases h
theorem controlFlr : Statement .controlFlr := fun _ h => by cases h
theorem dataFlr : Statement .dataFlr := fun _ h => by cases h
theorem apertureAccess a0 a1 a2 a3 : Statement (.apertureAccess a0 a1 a2 a3) := fun _ h => by cases h
theorem registerWrite a0 a1 a2 a3 : Statement (.registerWrite a0 a1 a2 a3) := fun _ h => by cases h
theorem mbxDataWrite a0 a1 a2 a3 a4 : Statement (.mbxDataWrite a0 a1 a2 a3 a4) := fun _ h => by cases h
theorem mbxDoorbell a0 a1 : Statement (.mbxDoorbell a0 a1) := fun _ h => by cases h
theorem mbxAck a0 a1 a2 : Statement (.mbxAck a0 a1 a2) := fun _ h => by cases h
theorem trayDoorbellAnswer : Statement .trayDoorbellAnswer := fun _ h => by cases h
theorem lockRead a0 a1 : Statement (.lockRead a0 a1) := fun _ h => by cases h
theorem lockRelease a0 a1 a2 : Statement (.lockRelease a0 a1 a2) := fun _ h => by cases h
theorem lockStatRead a0 a1 : Statement (.lockStatRead a0 a1) := fun _ h => by cases h
theorem mpReset : Statement .mpReset := fun _ h => by cases h
theorem securityProcessorReset : Statement .securityProcessorReset := fun _ h => by cases h
theorem islandProcessorReset : Statement .islandProcessorReset := fun _ h => by cases h
theorem islandProcessorRelease : Statement .islandProcessorRelease := fun _ h => by cases h
theorem debugTapReset : Statement .debugTapReset := fun _ h => by cases h
theorem bridgeRetryReissue : Statement .bridgeRetryReissue := fun _ h => by cases h
theorem islandPowerUp : Statement .islandPowerUp := fun _ h => by cases h
theorem vIslLoss : Statement .vIslLoss := fun _ h => by cases h
theorem securityBoot : Statement .securityBoot := fun _ h => by cases h
theorem pwrBrakeAssert : Statement .pwrBrakeAssert := fun _ h => by cases h
theorem pwrBrakeDeassert : Statement .pwrBrakeDeassert := fun _ h => by cases h
theorem pgRise a0 : Statement (.pgRise a0) := fun _ h => by cases h
theorem pgTimeout a0 : Statement (.pgTimeout a0) := fun _ h => by cases h
theorem railDown a0 : Statement (.railDown a0) := fun _ h => by cases h
theorem pgStuck a0 : Statement (.pgStuck a0) := fun _ h => by cases h
theorem railFailure a0 : Statement (.railFailure a0) := fun _ h => by cases h
theorem powerUpComplete : Statement .powerUpComplete := fun _ h => by cases h
theorem hbmTrainDone a0 a1 a2 : Statement (.hbmTrainDone a0 a1 a2) := fun _ h => by cases h
theorem smbalert a0 : Statement (.smbalert a0) := fun _ h => by cases h
theorem smbalertAraTimeout a0 : Statement (.smbalertAraTimeout a0) := fun _ h => by cases h
theorem pmbusPoll a0 : Statement (.pmbusPoll a0) := fun _ h => by cases h
theorem clockChangeApply : Statement .clockChangeApply := fun _ h => by cases h
theorem trayPowerUp : Statement .trayPowerUp := fun _ h => by cases h
theorem trayClearLockout : Statement .trayClearLockout := fun _ h => by cases h
theorem trayIslandOff : Statement .trayIslandOff := fun _ h => by cases h
theorem startupCapLift : Statement .startupCapLift := fun _ h => by cases h
theorem throttleRise : Statement .throttleRise := fun _ h => by cases h
theorem throttleFall : Statement .throttleFall := fun _ h => by cases h
theorem pwrThrottleEscalate : Statement .pwrThrottleEscalate := fun _ h => by cases h
theorem thermalLimitRelease : Statement .thermalLimitRelease := fun _ h => by cases h
theorem shedLimitRise : Statement .shedLimitRise := fun _ h => by cases h
theorem warmReached : Statement .warmReached := fun _ h => by cases h
theorem frameBoundary a0 a1 : Statement (.frameBoundary a0 a1) := fun _ h => by cases h
theorem lastSwitchFrame : Statement .lastSwitchFrame := fun _ h => by cases h
theorem frameStrobe a0 : Statement (.frameStrobe a0) := fun _ h => by cases h
theorem packageReady a0 : Statement (.packageReady a0) := fun _ h => by cases h
theorem markerEmit a0 : Statement (.markerEmit a0) := fun _ h => by cases h
theorem frameMarkerReceive a0 a1 a2 : Statement (.frameMarkerReceive a0 a1 a2) := fun _ h => by cases h
theorem shedNotice : Statement .shedNotice := fun _ h => by cases h
theorem shedNoticeReceive a0 a1 a2 : Statement (.shedNoticeReceive a0 a1 a2) := fun _ h => by cases h
theorem frameFaultTimeout : Statement .frameFaultTimeout := fun _ h => by cases h
theorem memberMarkerTimeout : Statement .memberMarkerTimeout := fun _ h => by cases h
theorem join a0 a1 a2 a3 : Statement (.join a0 a1 a2 a3) := fun _ h => by cases h
theorem matrixDescriptor a0 a1 a2 a3 : Statement (.matrixDescriptor a0 a1 a2 a3) := fun _ h => by cases h
theorem add a0 a1 a2 : Statement (.add a0 a1 a2) := fun _ h => by cases h
theorem mul a0 a1 a2 : Statement (.mul a0 a1 a2) := fun _ h => by cases h
theorem fma a0 a1 a2 : Statement (.fma a0 a1 a2) := fun _ h => by cases h
theorem min a0 a1 a2 : Statement (.min a0 a1 a2) := fun _ h => by cases h
theorem max a0 a1 a2 : Statement (.max a0 a1 a2) := fun _ h => by cases h
theorem cvt a0 a1 a2 : Statement (.cvt a0 a1 a2) := fun _ h => by cases h
theorem encode a0 a1 a2 : Statement (.encode a0 a1 a2) := fun _ h => by cases h
theorem rcp a0 a1 a2 : Statement (.rcp a0 a1 a2) := fun _ h => by cases h
theorem rsqrt a0 a1 a2 : Statement (.rsqrt a0 a1 a2) := fun _ h => by cases h
theorem exp2 a0 a1 a2 : Statement (.exp2 a0 a1 a2) := fun _ h => by cases h
theorem log2 a0 a1 a2 : Statement (.log2 a0 a1 a2) := fun _ h => by cases h
theorem reduceAdd a0 a1 a2 : Statement (.reduceAdd a0 a1 a2) := fun _ h => by cases h
theorem hbmDescriptor a0 : Statement (.hbmDescriptor a0) := fun _ h => by cases h
theorem laceDescriptor a0 : Statement (.laceDescriptor a0) := fun _ h => by cases h
theorem spillDescriptor a0 : Statement (.spillDescriptor a0) := fun _ h => by cases h
theorem allReduce a0 : Statement (.allReduce a0) := fun _ h => by cases h
theorem reduceScatter a0 : Statement (.reduceScatter a0) := fun _ h => by cases h
theorem allGather a0 : Statement (.allGather a0) := fun _ h => by cases h
theorem allToAll a0 : Statement (.allToAll a0) := fun _ h => by cases h
theorem collectiveContributionReceive a0 : Statement (.collectiveContributionReceive a0) := fun _ h => by cases h
theorem hbmRereadComplete a0 a1 a2 a3 : Statement (.hbmRereadComplete a0 a1 a2 a3) := fun _ h => by cases h
theorem patrolScrub a0 a1 a2 : Statement (.patrolScrub a0 a1 a2) := fun _ h => by cases h
theorem sramScrub a0 a1 a2 a3 : Statement (.sramScrub a0 a1 a2 a3) := fun _ h => by cases h
theorem coreParity a0 a1 a2 : Statement (.coreParity a0 a1 a2) := fun _ h => by cases h
theorem lightLoss a0 : Statement (.lightLoss a0) := fun _ h => by cases h
theorem lightRestored a0 : Statement (.lightRestored a0) := fun _ h => by cases h
theorem laneTrainingDone a0 a1 : Statement (.laneTrainingDone a0 a1) := fun _ h => by cases h
theorem flitReplay a0 a1 a2 : Statement (.flitReplay a0 a1 a2) := fun _ h => by cases h
theorem replayExhaust a0 : Statement (.replayExhaust a0) := fun _ h => by cases h
theorem lossOfSignal a0 : Statement (.lossOfSignal a0) := fun _ h => by cases h
theorem laceTimeout a0 : Statement (.laceTimeout a0) := fun _ h => by cases h
theorem laceReply a0 a1 a2 : Statement (.laceReply a0 a1 a2) := fun _ h => by cases h
theorem laceRequestReceive a0 : Statement (.laceRequestReceive a0) := fun _ h => by cases h
theorem relayForward a0 a1 a2 : Statement (.relayForward a0 a1 a2) := fun _ h => by cases h
theorem peerResetReceive a0 : Statement (.peerResetReceive a0) := fun _ h => by cases h
theorem retireSymbolReceive a0 : Statement (.retireSymbolReceive a0) := fun _ h => by cases h
theorem controlTick a0 : Statement (.controlTick a0) := fun _ h => by cases h
theorem loopOutputApply : Statement .loopOutputApply := fun _ h => by cases h
theorem testDone : Statement .testDone := fun _ h => by cases h
theorem loopImplausible a0 : Statement (.loopImplausible a0) := fun _ h => by cases h
theorem loopSaturated a0 : Statement (.loopSaturated a0) := fun _ h => by cases h
theorem plausWindowEnd a0 : Statement (.plausWindowEnd a0) := fun _ h => by cases h
theorem sensorFault a0 : Statement (.sensorFault a0) := fun _ h => by cases h
theorem sensorRecovered a0 : Statement (.sensorRecovered a0) := fun _ h => by cases h
theorem sensorDisagree a0 : Statement (.sensorDisagree a0) := fun _ h => by cases h
theorem flowPulse a0 a1 : Statement (.flowPulse a0 a1) := fun _ h => by cases h
theorem flowPulseTimeout a0 : Statement (.flowPulseTimeout a0) := fun _ h => by cases h
theorem calibrationComplete a0 a1 a2 a3 : Statement (.calibrationComplete a0 a1 a2 a3) := fun _ h => by cases h
theorem zoneEnergyPush a0 a1 : Statement (.zoneEnergyPush a0 a1) := fun _ h => by cases h
theorem forecastSend a0 : Statement (.forecastSend a0) := fun _ h => by cases h
theorem forecastStale : Statement .forecastStale := fun _ h => by cases h
theorem toecapService a0 a1 : Statement (.toecapService a0 a1) := fun _ h => by cases h
theorem toecapExpiry : Statement .toecapExpiry := fun _ h => by cases h
theorem toecapRelease a0 : Statement (.toecapRelease a0) := fun _ h => by cases h
theorem valvePeriodBoundary a0 : Statement (.valvePeriodBoundary a0) := fun _ h => by cases h
theorem valveCommandEnd a0 : Statement (.valveCommandEnd a0) := fun _ h => by cases h
theorem boostEnd a0 a1 a2 : Statement (.boostEnd a0 a1 a2) := fun _ h => by cases h
theorem peakEnd a0 a1 : Statement (.peakEnd a0 a1) := fun _ h => by cases h
theorem coilOvercurrent a0 : Statement (.coilOvercurrent a0) := fun _ h => by cases h
theorem coilOpenLoad a0 : Statement (.coilOpenLoad a0) := fun _ h => by cases h
theorem valveSupplyLow : Statement .valveSupplyLow := fun _ h => by cases h
theorem valveSupplyRestored : Statement .valveSupplyRestored := fun _ h => by cases h
theorem pwmReload a0 : Statement (.pwmReload a0) := fun _ h => by cases h
theorem pwmDutyWrite a0 a1 a2 : Statement (.pwmDutyWrite a0 a1 a2) := fun _ h => by cases h
theorem tachEdge a0 a1 : Statement (.tachEdge a0 a1) := fun _ h => by cases h
theorem tachTimeout a0 : Statement (.tachTimeout a0) := fun _ h => by cases h
theorem pumpStall a0 : Statement (.pumpStall a0) := fun _ h => by cases h
theorem leakTrip a0 a1 : Statement (.leakTrip a0 a1) := fun _ h => by cases h
theorem weltSenseFault a0 : Statement (.weltSenseFault a0) := fun _ h => by cases h
theorem weltSenseRecovered a0 : Statement (.weltSenseRecovered a0) := fun _ h => by cases h
theorem clearLeak a0 : Statement (.clearLeak a0) := fun _ h => by cases h
theorem clearTherm : Statement .clearTherm := fun _ h => by cases h
theorem flowBalanceEvaluation a0 a1 : Statement (.flowBalanceEvaluation a0 a1) := fun _ h => by cases h
theorem valveTestStartSample a0 : Statement (.valveTestStartSample a0) := fun _ h => by cases h
theorem valveTestResult a0 : Statement (.valveTestResult a0) := fun _ h => by cases h
theorem rowFrameReceive a0 a1 : Statement (.rowFrameReceive a0 a1) := fun _ h => by cases h
theorem rowFrameSent a0 a1 : Statement (.rowFrameSent a0 a1) := fun _ h => by cases h
theorem txAttemptFail a0 a1 : Statement (.txAttemptFail a0 a1) := fun _ h => by cases h
theorem busOffRecovery a0 : Statement (.busOffRecovery a0) := fun _ h => by cases h
theorem objectExpired a0 a1 : Statement (.objectExpired a0 a1) := fun _ h => by cases h
theorem objectStale a0 a1 : Statement (.objectStale a0 a1) := fun _ h => by cases h
theorem objectPeriodicQueue a0 a1 : Statement (.objectPeriodicQueue a0 a1) := fun _ h => by cases h
theorem objReq a0 a1 a2 : Statement (.objReq a0 a1 a2) := fun _ h => by cases h
theorem objCancel a0 a1 a2 : Statement (.objCancel a0 a1 a2) := fun _ h => by cases h
theorem objLock a0 a1 a2 : Statement (.objLock a0 a1 a2) := fun _ h => by cases h
theorem objAck a0 a1 a2 : Statement (.objAck a0 a1 a2) := fun _ h => by cases h
theorem leakRepeat : Statement .leakRepeat := fun _ h => by cases h
theorem failsafeRepeat : Statement .failsafeRepeat := fun _ h => by cases h
theorem refQueue a0 : Statement (.refQueue a0) := fun _ h => by cases h
theorem ref a0 a1 : Statement (.ref a0 a1) := fun _ h => by cases h
theorem rowTimeHoldover : Statement .rowTimeHoldover := fun _ h => by cases h
theorem grant a0 a1 : Statement (.grant a0 a1) := fun _ h => by cases h
theorem request a0 a1 : Statement (.request a0 a1) := fun _ h => by cases h
theorem release a0 a1 : Statement (.release a0 a1) := fun _ h => by cases h
theorem taken a0 a1 : Statement (.taken a0 a1) := fun _ h => by cases h
theorem failsafe a0 a1 a2 : Statement (.failsafe a0 a1 a2) := fun _ h => by cases h
theorem heartbeatLost a0 : Statement (.heartbeatLost a0) := fun _ h => by cases h
theorem refereeStart a0 : Statement (.refereeStart a0) := fun _ h => by cases h
theorem initialGrant a0 : Statement (.initialGrant a0) := fun _ h => by cases h
theorem latentFaultCheck a0 : Statement (.latentFaultCheck a0) := fun _ h => by cases h
theorem takebackRequest a0 : Statement (.takebackRequest a0) := fun _ h => by cases h
theorem takebackReleaseTimeout a0 : Statement (.takebackReleaseTimeout a0) := fun _ h => by cases h
theorem statePush : Statement .statePush := fun _ h => by cases h
theorem state a0 a1 a2 : Statement (.state a0 a1 a2) := fun _ h => by cases h
theorem stewardStep : Statement .stewardStep := fun _ h => by cases h
theorem limit a0 a1 a2 : Statement (.limit a0 a1 a2) := fun _ h => by cases h
theorem stewardCapLost : Statement .stewardCapLost := fun _ h => by cases h
theorem islandRecordProgrammed : Statement .islandRecordProgrammed := fun _ h => by cases h
theorem openRecordClose : Statement .openRecordClose := fun _ h => by cases h
theorem islandPageEraseDone : Statement .islandPageEraseDone := fun _ h => by cases h
theorem mainSectorEraseDone : Statement .mainSectorEraseDone := fun _ h => by cases h
theorem islandRecordCopy : Statement .islandRecordCopy := fun _ h => by cases h
theorem tokenAdd a0 : Statement (.tokenAdd a0) := fun _ h => by cases h
theorem timeLoRead a0 a1 : Statement (.timeLoRead a0 a1) := fun _ h => by cases h
theorem fwActivationStart a0 : Statement (.fwActivationStart a0) := fun _ h => by cases h
theorem trialRunTimeout a0 : Statement (.trialRunTimeout a0) := fun _ h => by cases h
theorem trialEnd a0 : Statement (.trialEnd a0) := fun _ h => by cases h
theorem nonceExpiry : Statement .nonceExpiry := fun _ h => by cases h
theorem mpStart : Statement .mpStart := fun _ h => by cases h
theorem selftestComplete a0 a1 a2 : Statement (.selftestComplete a0 a1 a2) := fun _ h => by cases h
theorem mainRecordProgrammed : Statement .mainRecordProgrammed := fun _ h => by cases h
theorem receiveError a0 a1 : Statement (.receiveError a0 a1) := fun _ h => by cases h
theorem transmissionStart a0 a1 a2 : Statement (.transmissionStart a0 a1 a2) := fun _ h => by cases h
theorem busIntegrationComplete a0 : Statement (.busIntegrationComplete a0) := fun _ h => by cases h
theorem rowTimeSlewEnd : Statement .rowTimeSlewEnd := fun _ h => by cases h
theorem candidateEligible a0 a1 : Statement (.candidateEligible a0 a1) := fun _ h => by cases h
theorem doubledRefresh a0 a1 : Statement (.doubledRefresh a0 a1) := fun _ h => by cases h

end Sys2Proof.Laws.CmdWf
end

