-- ==== Sys2Proof/Tests/Slice0.lean ====
section
/-! SUPPORT. Small tests: ill-formed commands, and for each statement concrete states and operands that meet the
hypotheses of each of its clauses, with what the command does there. -/

open Sys2Proof Sys2Proof.Machine

-- Each theorem is a long kernel evaluation; one after the other they need few threads.
set_option Elab.async false

namespace Sys2Proof.Tests

/-! ## Helpers -/

/-- A command completes in a state that passes a test. -/
def ok (c : Instr) (s : State) (p : State → Bool) : Bool :=
  match exec c s with
  | .next t => p t
  | _ => false

/-- A command completes. -/
def runs (c : Instr) (s : State) : Bool := ok c s fun _ => true

/-- A ready packet, as a test that can be evaluated. -/
def readyB (op : Nat) (r : Req) (s : State) : Bool :=
  s.isl.on && portReach s r.port && s.port.ctx.isEmpty && (sget (s.win r.port).replies r.tag.toNat).isNone &&
  (postChecks s r.port r.ver op r.words.length r.words == none) &&
  (serverOf s r.port op (keptWords op r.words) != .off) && peerUp s op (keptWords op r.words)

theorem readyB_iff (op : Nat) (r : Req) (s : State) : readyB op r s = true ↔ Ready op r s := by
  constructor
  · intro h
    simp only [readyB, Bool.and_eq_true, beq_iff_eq, bne_iff_ne, List.isEmpty_iff, Option.isNone_iff_eq_none] at h
    obtain ⟨⟨⟨⟨⟨⟨a, b⟩, c⟩, d⟩, e⟩, f⟩, g⟩ := h
    exact ⟨a, b, c, d, e, f, g⟩
  · rintro ⟨a, b, c, d, e, f, g⟩
    simp [readyB, a, b, c, d, e, f, g]

/-- A package in S0 with every rail up and every processor running. -/
def on : State :=
  { State.reset with
    port := { State.reset.port with perst := false }
    pwr := { State.reset.pwr with pstate := .s0, target := .s0, en := 0x1FF, pg := 0x1FF }
    isl := { State.reset.isl with fwRun := true, procReset := false, firstTick := true }
    vlv := { State.reset.vlv with forcedPower := false }
    sec := { State.reset.sec with mpRun := true, secRun := true } }

/-- The same package in S2, with VDD_SOC alone, and in S3, with every rail down. -/
def s2 : State := { on with pwr := { on.pwr with pstate := .s2, target := .s2, en := 1, pg := 1 } }
def s3 : State :=
  { on with pwr := { on.pwr with pstate := .s3, target := .s3, en := 0, pg := 0 }
            sec := { on.sec with mpRun := false, secRun := false } }

/-- A packet of version 3 on the host's port with tag 5; one on the tray's. -/
def req (ws : List Word) : Req := { port := .host, tag := 5, ver := 3, words := ws }
def reqT (ws : List Word) : Req := { port := .tray, tag := 5, ver := 3, words := ws }

/-- A packet is ready, and its command answers a status with words and a state that pass a test. -/
def ends (op : Nat) (c : Req → Instr) (r : Req) (s : State) (st : Nat) (p : List Word → State → Bool) : Bool :=
  readyB op r s && ok (c r) s fun t =>
    match sget (t.win r.port).replies r.tag.toNat with
    | some a => a.status == st && t.port.ctx.isEmpty && p a.words t
    | none => false

/-- A packet is ready, and its command answers a status. -/
def ans (op : Nat) (c : Req → Instr) (r : Req) (s : State) (st : Nat) : Bool := ends op c r s st fun _ _ => true

/-! ## Ill-formed commands, one for each check -/

theorem test_wf_packet :
    (Instr.cmdNop { port := .host, tag := 0, ver := 3, words := List.replicate 256 0 }).wf = false ∧
    (Instr.cmdNop { port := .host, tag := 0, ver := 3, words := List.replicate 255 0 }).wf = true := by decide +kernel

theorem test_wf_ports :
    (Instr.apertureAccess false 0x8000000000 4 []).wf = false ∧ (Instr.apertureAccess false 0 4097 []).wf = false ∧
    (Instr.apertureAccess true 0 4 [1, 2, 3]).wf = false ∧ (Instr.apertureAccess true 0 4 [1, 2, 3, 4]).wf = true ∧
    (Instr.registerWrite .mp 0x1001000 15 0).wf = false ∧ (Instr.registerWrite .mp 0x2 15 0).wf = false ∧
    (Instr.registerWrite .mp 0x1000FFC 15 0).wf = true := by decide +kernel

theorem test_wf_power :
    (Instr.hbmTrainDone 0 true 256).wf = false ∧ (Instr.smbalert []).wf = false ∧ (Instr.smbalert [3, 3]).wf = false ∧
    (Instr.smbalertAraTimeout [3, 3]).wf = false ∧ (Instr.smbalert [3, 8]).wf = true ∧
    (Instr.pmbusPoll (List.replicate 8 (0, 0))).wf = false ∧ (Instr.pmbusPoll (List.replicate 9 (0, 65536))).wf = false ∧
    (Instr.frameBoundary 0 65536).wf = false ∧ (Instr.frameStrobe 5501).wf = false ∧ (Instr.doubledRefresh 0 256).wf = false := by
  decide +kernel

theorem test_wf_last :
    (let k : Marker := ⟨65535, 0, 3, 255, false, false, false, false, 0xFFFFFF⟩
     (Instr.frameMarkerReceive k 0 0xFFFFFF).wf = true ∧ (Instr.frameMarkerReceive k 0 0x1000000).wf = false ∧
     (Instr.frameMarkerReceive { k with f := 65536 } 0 0).wf = false ∧ (Instr.frameMarkerReceive { k with period := 4 } 0 0).wf = false ∧
     (Instr.frameMarkerReceive { k with acc := 0x1000000 } 0 0).wf = false ∧
     (Instr.frameMarkerReceive { k with shedFlag := true } 0 0).wf = false ∧
     (Instr.shedNoticeReceive { k with shedFlag := true } 0 0).wf = true ∧ (Instr.shedNoticeReceive k 0 0).wf = false) ∧
    (Instr.packageReady (some (256, 0, false))).wf = false ∧ (Instr.markerEmit 0x1000000).wf = false ∧
    (Instr.join 256 0 0 0).wf = false ∧ (Instr.join 255 2048 0 0).wf = false ∧ (Instr.join 255 0 2048 0).wf = false := by
  decide +kernel

theorem test_wf_descriptors :
    (Instr.matrixDescriptor 0 0 (List.replicate 8 0) none).wf = false ∧ (Instr.add 0 0 (List.replicate 6 0)).wf = false ∧
    (Instr.hbmDescriptor (List.replicate 7 0)).wf = false ∧ (Instr.laceDescriptor (List.replicate 6 0)).wf = false ∧
    (Instr.spillDescriptor (List.replicate 7 0)).wf = false ∧ (Instr.allReduce (List.replicate 7 0)).wf = false ∧
    (Instr.allToAll (List.replicate 9 0)).wf = false ∧ (Instr.allGather (List.replicate 8 0)).wf = true := by decide +kernel

theorem test_wf_lace :
    (let c : Contribution := ⟨1, 0, false, 0, 0, 3, 2, 3, 0, 2, 4, [1, 2, 3, 4], [0]⟩
     (Instr.collectiveContributionReceive c).wf = true ∧ (Instr.collectiveContributionReceive { c with rank := 2048 }).wf = false ∧
     (Instr.collectiveContributionReceive { c with dest := 2048 }).wf = false ∧
     (Instr.collectiveContributionReceive { c with job := 256 }).wf = false ∧ (Instr.collectiveContributionReceive { c with f := 65536 }).wf = false ∧
     (Instr.collectiveContributionReceive { c with bytes := 5 }).wf = false ∧
     (Instr.collectiveContributionReceive { c with op := 0, bytes := 8 }).wf = true ∧
     (Instr.collectiveContributionReceive { c with poison := [0, 0] }).wf = false ∧
     (Instr.collectiveContributionReceive { c with poison := [1] }).wf = false) ∧
    (Instr.laneTrainingDone 0 (.peer false 5 1 2 0 0 0)).wf = false ∧
    (Instr.laneTrainingDone 0 (.peer false 2048 2 1 0 0 0)).wf = false ∧ (Instr.laneTrainingDone 0 (.peer true 5 2 1 4096 0 0)).wf = false ∧
    (Instr.laceTimeout (.contribution 0 2048 true)).wf = false ∧ (Instr.laceReply 0 8 .remoteError).wf = false ∧
    (Instr.laceReply 0 1 (.ok [1] [1])).wf = false ∧
    (let q : LaceReq := ⟨1, 9, 2, true, none, false, 5, 0, 0, 64, 4, [1, 2, 3, 4], [], false, some (65535, 9)⟩
     (Instr.laceRequestReceive q).wf = true ∧ (Instr.laceRequestReceive { q with data := [1] }).wf = false ∧
     (Instr.laceRequestReceive { q with window := some 16 }).wf = false ∧ (Instr.laceRequestReceive { q with core := 64 }).wf = false ∧
     (Instr.laceRequestReceive { q with order := some (65536, 0) }).wf = false) ∧
    (Instr.relayForward 2048 false 0).wf = false ∧ (Instr.peerResetReceive 4096).wf = false := by decide +kernel

theorem test_wf_memory :
    (Instr.hbmRereadComplete 0 1500000000 false true).wf = false ∧ (Instr.patrolScrub 0 1500000000 .clean).wf = false ∧
    (Instr.patrolScrub 0 1499999999 .clean).wf = true ∧ (Instr.sramScrub 0 0 0x60000 .clean).wf = false ∧
    (Instr.sramScrub 0 0 4 .clean).wf = false ∧ (Instr.coreParity 0 0 []).wf = false := by decide +kernel

theorem test_wf_island :
    (let x : TickIn := { samples := List.replicate 80 [], fromStrobe := false, coreMeas := List.replicate 4 0, restMeas := 0, welt := List.replicate 7 0, pins := 0 }
     (Instr.controlTick x).wf = true ∧ (Instr.controlTick { x with samples := List.replicate 79 [] }).wf = false ∧
     (Instr.controlTick { x with samples := List.replicate 80 (List.replicate 5 none) }).wf = false ∧
     (Instr.controlTick { x with coreMeas := [] }).wf = false ∧ (Instr.controlTick { x with welt := [] }).wf = false) ∧
    (Instr.flowPulse 0 0).wf = false ∧ (Instr.calibrationComplete 0 4 0 0).wf = false ∧ (Instr.tachEdge 0 0).wf = false ∧
    (Instr.leakTrip 0 [1]).wf = false := by decide +kernel

theorem test_wf_row :
    (let f : CanFrame := { ident := 0x7FF, extended := false, data := List.replicate 12 0, dlc := 9, sof := 0, inBand := true }
     (Instr.rowFrameReceive false f).wf = true ∧ (Instr.rowFrameReceive false { f with ident := 0x800 }).wf = false ∧
     (Instr.rowFrameReceive false { f with dlc := 10 }).wf = false ∧ (Instr.ref false f).wf = false) ∧
    (Instr.grant false ⟨5, 0, 0, 0, 0, 0⟩).wf = false ∧ (Instr.grant false ⟨0, 0, 65536, 0, 0, 0⟩).wf = false ∧
    (Instr.release false ⟨3, 2, 65535, 63, 63, 255⟩).wf = true ∧ (Instr.state false 0 []).wf = false ∧
    (Instr.limit false 0 [1]).wf = false ∧ (Instr.limit false 0 (List.replicate 8 65536)).wf = false ∧
    (Instr.tokenAdd 4096).wf = false := by decide +kernel

/-! ## The step, and the rows that have no bits -/

theorem test_no_row_has_bits : decodeTableWord 32 0x30000005 = none ∧ on.withFetchWord 32 0x30000005 = on := ⟨rfl, rfl⟩

theorem test_step_runs_front (c : Instr) (s : State) : step { s with pending := [c] } = exec c { s with pending := [] } := rfl

theorem test_idle_step : (match step on with | .next t => t.log.elapsed == 1 && t.pending == [] | _ => false) = true := by decide +kernel

/-! ## Steps -/

theorem wit_StepRunsFront : { on with pending := [.trayPowerUp, .mpStart] }.pending = .trayPowerUp :: [.mpStart] := rfl

theorem wit_QuietSteps :
    ({ on with isl := { on.isl with on := false } }.isl.on = false ∧ Instr.mpStart ≠ .islandPowerUp ∧
      Instr.mpStart ≠ .vIslLoss) ∧ runs .trayPowerUp on = true ∧ on.pending = [] ∧ on.pwr.coreEnAt = none ∧
    (match step { on with pwr := { on.pwr with en := 0x1F, coreEnAt := some 0 }, log := { on.log with elapsed := 199 } } with
     | .next t => t.pwr.en == 0x7F && t.pwr.coreEnAt == some 0
     | _ => false) = true := by decide +kernel

theorem wit_StepKeepsMemories :
    MemoriesCanonical { on with pending := [.mpStart], core := { on.core with sram := [(3, 1), (9, 2)] } } ∧
    runs .mpStart { on with core := { on.core with sram := [(3, 1), (9, 2)] } } = true := ⟨⟨by decide, by decide⟩, by decide⟩

/-! ## Opcodes that only report -/

theorem wit_ReportingOpcodes :
    ans 0x000 .getIdentity (req []) on 0 = true ∧ ans 0x001 .getVersions (req []) on 0 = true ∧
    ends 0x003 .cmdNop (req [7, 8]) on 0 (fun ws _ => ws == [7, 8]) = true ∧
    ans 0x100 .pwrStatus (req []) on 0 = true ∧ ans 0x103 .pwrRailStatus (req []) on 0 = true ∧
    ans 0x200 .coolStatus (req []) on 0 = true ∧ ans 0x201 .coolForecastGet (req []) on 0 = true ∧
    ans 0x230 .weltStatus (req []) on 0 = true ∧ ans 0x250 .stewardStatus (req []) on 0 = true ∧
    ans 0x400 .memStatus (req []) on 0 = true ∧ ans 0x602 .timeGet (req []) on 0 = true ∧
    ans 0x703 .fwStatus (req []) on 0 = true ∧ ans 0x803 .secKeyStatus (req []) on 0 = true := by decide +kernel

theorem wit_ReportsByState :
    ans 0x213 .loopStatus (req [31]) on 0 = true ∧ ans 0x241 .rowStatus (req [1]) on 0 = true ∧
    ans 0x600 .logStatus (req []) on 0 = true ∧ on.sec.mpRun = true ∧
    (ans 0x600 .logStatus (reqT []) { on with sec := { on.sec with mpRun := false } } 0 = true) ∧
    ans 0x308 .lastStatus (req []) on 0 = true ∧ inS0S1 on = true ∧
    ans 0x308 .lastStatus (req []) s2 7 = true ∧ inS0S1 s2 = false ∧
    ans 0x412 .repairStatus (req []) on 0 = true ∧ ans 0x412 .repairStatus (req []) s2 7 = true ∧
    ans 0x500 .laceStatus (req []) on 0 = true ∧ ans 0x500 .laceStatus (req []) s2 7 = true := by decide +kernel

/-! ## Command windows -/

/-- The host's window with a request header written, and with a transfer open. -/
def hdr (op len : Nat) : Word := mkW [(28, 3), (16, op), (8, len), (0, 5)]
def xfer (out : Bool) (target left : Nat) : State :=
  on.onWin .host fun x => { x with active := true, outbound := out, target := target, left := left, outWords := [4, 5] }

/-- What the posting of a header leaves in the slot of tag 5: its status. -/
def postSt (s : State) (h : Word) : Option Nat :=
  match exec (.cmdReqWrite .host h) s with
  | .next t => (sget (t.win .host).replies 5).map fun a => a.status
  | _ => none

theorem wit_PacketPosting :
    (on.isl.on = true ∧ portReach on .host = true) ∧
    -- a header whose words are still to come
    ((on.win .host).part ++ [hdr 0x220 1] = hdr 0x220 1 :: [] ∧ ([] : List Word).length ≠ hdrLen (hdr 0x220 1)) ∧
    -- complete packets: one that waits, a tag in flight, version 1, LEN 32, an opcode of no row, too few words
    (hdrLen (hdr 0x100 0) = 0 ∧ postSt on (hdr 0x100 0) = none) ∧
    inFlight { on with port := { on.port with ctx := [⟨.host, 5, 3, 0x100, [], true, true, false, false⟩] } } .host 5 = true ∧
    postSt on (mkW [(28, 1), (16, 0x100), (0, 5)]) = some 5 ∧
    postSt on (hdr 0x0FF 0) = some 4 ∧ postSt on (hdr 0x220 0) = some 9 ∧
    postSt on (mkW [(28, 2), (16, 0x904), (0, 5)]) = some 4 ∧
    31 < hdrLen (hdr 0x100 32) ∧
    -- a serving side that is off, and a full context RAM
    serverOf s3 .tray 0x100 [] = .off ∧ serverOf s3 .tray 0x220 [0] = .cobbler ∧
    256 ≤ ctxInUse { on with port := { on.port with ctx := List.replicate 256 ⟨.tray, 1, 3, 0x100, [], false, true, false, false⟩ } } := by
  decide +kernel

theorem wit_BulkWords :
    ((xfer false 1 2).win .host).active = true ∧ ((xfer false 1 2).win .host).outbound = false ∧
    1 < ((xfer false 1 2).win .host).left ∧ ((xfer false 1 1).win .host).left = 1 ∧
    ok (.cmdDataInWrite .host 9) (xfer false 1 1) (fun t => t.last.standby == [9]) = true ∧
    ok (.cmdDataInWrite .host 9) (xfer false 2 1) (fun t => (t.sec.fw 0).complete) = true ∧
    ok (.cmdDataInWrite .host 9) (xfer false 3 1) (fun t => t.isl.calLoaded == some [9]) = true ∧
    (on.win .host).active = false ∧ ok (.cmdDataInWrite .host 9) on (fun t => (t.win .host).dataIdle) = true ∧
    ok (.cmdDataOutRead .host) (xfer true 1 2) (fun t => t.port.rdata == [4] && (t.win .host).left == 1) = true ∧
    ok (.cmdDataOutRead .host) (xfer true 1 1) (fun t => t.port.rdata == [4] && !(t.win .host).active) = true ∧
    ok (.cmdDataOutRead .host) on (fun t => t.port.rdata == [0]) = true := by decide +kernel

/-- A command of tag 5 that waits for a processor's answer. -/
def waitsPeer : State := { on with port := { on.port with ctx := [⟨.host, 5, 3, 0x220, [0], true, true, false, true⟩] } }

theorem wit_RepliesEnd :
    (on.isl.on = true ∧ portReach on .host = true) ∧
    ok (.cmdDoneRelease .host false 0x20) (on.onWin .host fun x => { x with replies := [(5, ⟨3, 0, 0, []⟩), (37, ⟨3, 0, 0, []⟩)] })
      (fun t => (t.win .host).replies == [(37, ⟨3, 0, 0, []⟩)]) = true ∧
    (let e : Ctx := ⟨.host, 5, 3, 0x220, [0], true, true, false, true⟩
     waitsPeer.port.ctx = [] ++ e :: [] ∧ unanswered waitsPeer e = true ∧
     ok (.cmdPeerTimeout .host 5) waitsPeer (fun t => (sget (t.win .host).replies 5).map (·.status) == some 0xA && t.port.ctx == []) = true ∧
     ok (.cmdPeerTimeout .host 5) { on with port := { on.port with ctx := [{ e with silent := true }] } }
       (fun t => (t.win .host).replies == [] && t.port.ctx == []) = true ∧
     (∀ x ∈ on.port.ctx, unanswered on x = false) ∧ runs (.cmdPeerTimeout .host 5) on = true) ∧
    (ends 0x002 .cmdAbort (req [0x200]) (xfer false 1 2) 0 fun ws t => ws == [0x300] && !(t.win .host).active) = true ∧
    (ends 0x002 .cmdAbort (req [7]) on 0 fun ws _ => ws == [7]) = true ∧
    -- a command of tag 9 that has not started, and one that has
    (let x : Ctx := ⟨.host, 9, 3, 0x211, [0, 0], false, true, false, false⟩
     let s : State := { on with port := { on.port with ctx := [x] } }
     let u : State := { on with port := { on.port with ctx := [{ x with started := true }] } }
     postChecks s .host 3 0x002 1 [9] = none ∧ serverOf s .host 0x002 (keptWords 0x002 [9]) ≠ .off ∧
     ok (.cmdAbort (req [9])) s (fun t => (sget (t.win .host).replies 9).map (·.status) == some 8 &&
       (sget (t.win .host).replies 5).map (·.words) == some [0x109]) = true ∧
     postChecks u .host 3 0x002 1 [9] = none ∧ serverOf u .host 0x002 (keptWords 0x002 [9]) ≠ .off ∧
     ok (.cmdAbort (req [9])) u (fun t => t.port.ctx == u.port.ctx &&
       (sget (t.win .host).replies 5).map (·.status) == some 2) = true) := by decide +kernel

/-! ## Resets of masters and ports -/

theorem wit_MasterResets :
    on.isl.on = true ∧ on.port.tray.active = false ∧ mgmtOn on = true ∧ on.sec.mp.trial = false ∧
    ok .mpReset waitsPeer (fun t => (sget (t.win .host).replies 5).map (·.status) == some 8) = true ∧
    ok (.trayPortReset true) (on.onMbx fun m => { m with locks := vmod m.locks 31 fun _ => { owner := 3 } })
      (fun t => lockOf t 31 == { owner := 0, broken := true, brokenOwner := 3 } && t.port.tbRst) = true ∧
    ok (.trayPortReset false) { on with port := { on.port with tbRst := true } } (fun t => !t.port.tbRst) = true ∧
    -- both the sender and the receiver of a channel, the receiver alone, the sender alone
    ((mbxCh on 0).sender = 1 ∧ (mbxCh on 0).receiver = 4) ∧
    runs .perstAssert on = true ∧ runs .controlFlr on = true ∧ runs .dataFlr on = true ∧ runs .debugTapReset on = true ∧
    runs .securityProcessorReset on = true ∧
    ok .islandProcessorReset on (fun t => t.isl.procReset && !t.isl.fwRun) = true := by decide +kernel

/-! ## Mailboxes, locks and the tray bus -/

/-- Channel 2 (tray to MP) full, with the message's epoch as given. -/
def full (ep : BitVec 4) (p : PState) : State :=
  { on with mbx := { on.mbx with ch := vmod on.mbx.ch 2 fun x => { x with doorbell := true, msgEpoch := ep } }
            pwr := { on.pwr with pstate := p } }

/-- The tray's DOORBELL of a channel waits for the island. -/
def rung (c : Nat) (s : State) : State := { s with port := { s.port with bus := { s.port.bus with doorbellWait := some (c, 1) } } }

theorem wit_MailboxMessages :
    (on.isl.on = true ∧ masterReach on .tray = true ∧ masterReach on .mp = true ∧ masterReach on .cobbler = true) ∧
    ((mbxCh on 2).bound = true ∧ (mbxCh on 2).sender = Master.tray.id ∧ (mbxCh on 2).doorbell = false) ∧
    ok (.mbxDataWrite .tray 2 15 0xF 7) on (fun t => (mbxCh t 2).data[15] == 7) = true ∧
    ok (.mbxDataWrite .tray 2 0 0xF 7) (full 0 .s0) (fun t => (mbxCh t 2).refused) = true ∧
    (mbxCh on 2).sender ≠ Master.mp.id ∧ ok (.mbxDoorbell .mp 2) on (fun t => t.mbx.violCount == 1) = true ∧
    -- channel 9 (Cobbler to MP), posted, turned away without the MP's domain, and full
    ((mbxCh on 9).sender = Master.cobbler.id ∧ masterOn on (mbxCh on 9).receiver = true ∧
      ok (.mbxDoorbell .cobbler 9) on (fun t => (mbxCh t 9).doorbell && t.port.ended == .ok) = true) ∧
    (masterReach s3 .cobbler = true ∧ masterOn s3 (mbxCh s3 9).receiver = false ∧
      ok (.mbxDoorbell .cobbler 9) s3 (fun t => (mbxCh t 9).ackCode == 0xFD && t.port.ended == .err) = true) ∧
    ok (.mbxDoorbell .cobbler 9) { on with mbx := { on.mbx with ch := vmod on.mbx.ch 9 fun x => { x with doorbell := true } } }
      (fun t => (mbxCh t 9).refused) = true ∧
    -- channel 1 (MP to host) in S2, where the message is a wake
    (masterReach s2 .mp = true ∧ ok (.mbxDoorbell .mp 1) s2 (fun t => t.pwr.wakePin && t.pwr.wakeCause.getLsbD 4) = true) ∧
    -- the tray's DOORBELL: the wait, and the answer that posts, turns away, refuses or denies it
    (busWaits on = false ∧ ok (.mbxDoorbell .tray 2) on
      (fun t => !(mbxCh t 2).doorbell && t.port.bus.doorbellWait == some (2, 1)) = true) ∧
    ok .trayDoorbellAnswer (rung 2 on) (fun t => (mbxCh t 2).doorbell && t.port.bus.doorbellWait == none) = true ∧
    ok .trayDoorbellAnswer (rung 2 s3) (fun t => (mbxCh t 2).ackCode == 0xFD && t.port.ended == .err) = true ∧
    ok .trayDoorbellAnswer (rung 2 (full 0 .s0)) (fun t => (mbxCh t 2).refused) = true ∧
    ok .trayDoorbellAnswer (rung 9 on) (fun t => t.mbx.violCount == 1) = true ∧
    ok (.mbxAck .mp 2 0x12) (full 0 .s0) (fun t => (mbxCh t 2).ackCode == 0x12 && !(mbxCh t 2).doorbell) = true ∧
    ok (.mbxAck .mp 2 0xF0) (full 0 .s0) (fun t => (mbxCh t 2).ackCode == 0xEF) = true ∧
    (mbxCh (full 1 .s0) 2).msgEpoch ≠ (mbxCh (full 1 .s0) 2).senderEpoch ∧
    ok (.mbxAck .mp 2 0x12) (full 1 .s0) (fun t => !(mbxCh t 2).ackValid && !(mbxCh t 2).doorbell) = true ∧
    ok (.mbxAck .mp 2 0x12) on (fun t => t.mbx.violCount == 1) = true := by decide +kernel

/-- Lock 31 held by a master, with a break recorded. -/
def locked (m : Nat) : State := on.onMbx fun x => { x with locks := vmod x.locks 31 fun _ => ⟨m, true, 7⟩ }

theorem wit_LocksHaveOneOwner :
    (on.isl.on = true ∧ masterReach on .mp = true ∧ masterReach on .tray = true) ∧
    ok (.lockRead .mp 31) on (fun t => t.port.rdata == [0] && (lockOf t 31).owner == 4) = true ∧
    (lockOf (locked 4) 31).owner = Master.mp.id ∧
    ok (.lockRelease .mp 31 0) (locked 4) (fun t => (lockOf t 31).owner == 0) = true ∧
    ok (.lockRelease .mp 31 1) (locked 4) (fun t => (lockOf t 31).owner == 4) = true ∧
    ok (.lockRelease .mp 31 8) (locked 4) (fun t => (lockOf t 31).owner == 0) = true ∧
    ok (.lockRelease .tray 31 0) (locked 4) (fun t => (lockOf t 31).owner == 4) = true ∧
    (lockOf (locked 4) 31).brokenOwner < 8 ∧
    ok (.lockStatRead .mp 31) (locked 4) (fun t => t.port.rdata == [15] && !(lockOf t 31).broken) = true ∧
    (lockOf (locked 4) 31).owner ≠ 0 ∧ on.port.tbRst = false ∧ busWaits on = false ∧ (124 : BitVec 16).toNat = 4 * (31 : Fin 32).val ∧
    ok (.trayLowHalfRead 124) on (fun t => (lockOf t 31).owner == 3) = true ∧
    (126 : BitVec 16).toNat = 4 * (31 : Fin 32).val + 2 ∧
    ok (.trayLowHalfRead 126) on (fun t => (lockOf t 31).owner == 0 && t.port.rdata == [0]) = true := by decide +kernel

/-- The tray bus in a given state. -/
def bus (x : TrayBus) : State := { on with port := { on.port with bus := x } }

theorem wit_TrayBusCycles :
    (on.isl.on = true ∧ busWaits on = false) ∧
    ok (.trayLowHalfRead 0x1001) on (fun t => t.port.ended == .err) = true ∧
    ok (.trayLowHalfRead 0x100) on (fun t => t.port.bus.readWait == some 0x100) = true ∧
    ok (.trayLowHalfRead 0x7C) on (fun t => (lockOf t 31).owner == 3) = true ∧
    ok .traySlowReadComplete (bus { readWait := some 0x1100 }) (fun t => t.port.bus.low.map (·.1) == [0x1100]) = true ∧
    ok .traySlowReadComplete (bus { readWait := some 0x102, low := [(0x100, 0x12345678)] })
      (fun t => t.port.rdata == [0x1234] && t.port.bus.low == []) = true ∧
    runs .traySlowReadComplete on = true ∧ runs .traySlowReadComplete (bus { wbuf := true, readWait := some 0x100 }) = true ∧
    (busWaits (bus { readWait := some 0x100 }) = true ∧ runs (.trayLowHalfRead 0) (bus { readWait := some 0x100 }) = true) ∧
    ok (.trayLowHalfWrite 0x2000 0x0005) on (fun t => t.port.bus.held == some (0x2000, 5) && t.port.bus.wbuf) = true ∧
    hdrLen ((5 : BitVec 16).setWidth 32 ||| (0x3101 : BitVec 16).setWidth 32 <<< 16) = 0 ∧
    hdrLen ((0x0105 : BitVec 16).setWidth 32 ||| (0x3220 : BitVec 16).setWidth 32 <<< 16) ≠ 0 ∧
    ok (.trayLowHalfWrite 0x2002 0x3220) (bus { held := some (0x2000, 0x0105) })
      (fun t => (t.win .tray).part == [0x32200105]) = true ∧
    ok (.trayLowHalfWrite 0x2000 5) (bus { wbuf := true }) (fun t => t.port.bus.waiting == some (0x2000, 5)) = true ∧
    -- the last half of a word for an open inbound transfer
    (let s : State := { (bus { held := some (0x2004, 7) }) with port := { on.port with
                          bus := { held := some (0x2004, 7) }, tray := { active := true, target := 1, left := 2 } } }
     (s.win .tray).active = true ∧ (s.win .tray).outbound = false ∧ 1 < (s.win .tray).left ∧ s.port.bus.wbuf = false) ∧
    (on.port.bus.waiting = none ∧ on.port.bus.roomWait = none ∧ runs .trayWriteBufferDrain on = true) ∧
    ok .trayWriteBufferDrain (bus { wbuf := true, waiting := some (0x2004, 5) })
      (fun t => t.port.bus.wbuf && t.port.bus.held == some (0x2004, 5)) = true ∧
    ok .trayDataWaitTimeout (bus { roomWait := some (0x2006, 5) }) (fun t => t.port.ended == .err && t.port.bus.roomWait == none) = true ∧
    ok .trayDataWaitTimeout (bus { wbuf := true, waiting := some (0x2006, 5) })
      (fun t => t.port.ended == .err && t.port.bus.waiting == none) = true ∧
    ok .trayDataWaitTimeout (bus { wbuf := true, waiting := some (0x23FE, 5) }) (fun t => t.port.ended == .err) = true ∧
    ok .trayDataWaitTimeout (bus { wbuf := true, waiting := some (0x2008, 5) }) (fun t => t.port.bus.waiting == some (0x2008, 5)) = true ∧
    runs .trayDataWaitTimeout on = true ∧ runs .trayDoorbellAnswer on = true := by decide +kernel

theorem wit_RegisterWrites :
    (on.isl.on = true ∧ masterReach on .hostCtl = true ∧ masterReach on .hostData = true ∧ masterReach on .tray = true) ∧
    (blockOn s2 0x100000 = false ∧ masterReach s2 .hostCtl = true ∧
      ok (.registerWrite .hostCtl 0x100000 0xF 1) s2 (fun t => t.port.ended == .completerAbort) = true) ∧
    ok (.registerWrite .mp 0x100000 0xF 1) s2 (fun t => t.port.ended == .err) = true ∧
    ok (.registerWrite .debug 0x0FFC 0xF 1) on (fun t => t.port.ended == .ok) = true ∧
    ok (.registerWrite .hostData 0x4000 0xF 1) on (fun t => t.port.ended == .ok) = true ∧
    runs (.registerWrite .tray 0x1FFC 0xF 1) on = true ∧
    ok (.registerWrite .mp 0x10010 0xF 5) { on with pwr := { on.pwr with event := 7 } } (fun t => t.pwr.event == 2) = true ∧
    ok (.registerWrite .hostCtl 0x10014 0xE 5) { on with pwr := { on.pwr with wakeCause := 7 } }
      (fun t => t.pwr.wakeCause == 7) = true ∧
    ok (.registerWrite .mp 0x800000 0xF 5) on (fun t => t.port.ended == .ok) = true ∧
    ok (.registerWrite .mp 0x307C 0 8) (locked 4) (fun t => (lockOf t 31).owner == 0) = true ∧
    ok (.registerWrite .hostCtl 0x307C 0xE 0) (locked 1) (fun t => (lockOf t 31).owner == 1) = true ∧
    ok (.registerWrite .hostCtl 0x1000008 0xF 5) on (fun t => (vget t.port.msix0 0 {}).data == 5 && t.port.msix1 == on.port.msix1) = true := by
  decide +kernel

theorem wit_ApertureAccesses :
    (s2.isl.on = true ∧ masterReach s2 .hostData = true ∧ inS0S1 s2 = false ∧
      ok (.apertureAccess false 0 4 []) s2 (fun t => t.port.ended == .completerAbort) = true) ∧
    MemoriesCanonical on ∧ inS0S1 on = true ∧
    (let s : State := { on with mem := { on.mem with stk := Vector.replicate 6 { st := .inService } } }
     apServed s 0x40 4 = true ∧ apPoison s 0x40 4 = false ∧
     apPoison { s with mem := { s.mem with hbmPoison := [2] } } 0x40 4 = true ∧
     masterReach s .hostData = true ∧ apServed s 0x7FFFFFFFC0 4 = false ∧
     ok (.apertureAccess false 0x7FFFFFFFC0 4 []) s (fun t => t.port.rdata == [0] && t.port.ended == .ok) = true ∧
     ok (.apertureAccess true 0x7FFFFFFFC0 4 [1, 2, 3, 4]) s (fun t => t.mem.hbm == [] && t.port.ended == .ok) = true ∧
     ok (.apertureAccess true 0x40 4 [1, 0, 2, 0]) s (fun t => t.mem.hbm.read 0x40 4 == [1, 0, 2, 0]) = true) :=
  ⟨by decide +kernel, ⟨by decide, by decide⟩, by decide +kernel⟩

/-! ## Rails and power states -/

/-- A power-up under way from S3 toward a state, with these enables and power-good lines. -/
def up (tgt : PState) (en pg : BitVec 9) : State :=
  s3.onPwr fun p => { p with en := en, pg := pg, target := tgt, seq := some { up := true, target := tgt } }

/-- The same with every rail good and the MP released. -/
def risen (tgt : PState) : State := (up tgt 0x1FF 0x1FF).onSec fun c => { c with mpRun := true }

/-- A power-down under way in S2 toward S3. -/
def down (en pg : BitVec 9) : State :=
  s2.onPwr fun p => { p with en := en, pg := pg, target := .s3, seq := some { target := .s3 } }

theorem wit_PowerUpRails :
    (s3.isl.on = true ∧ (up .s0 1 0).pwr.seq = some { up := true, target := .s0 }) ∧
    (s3.sec.mp.trial = false ∧ s3.sec.sec.trial = false ∧ s3.sec.repairA = true) ∧
    ok (.pgRise 0) (up .s0 1 0) (fun t => t.pwr.en == 3 && t.pwr.pg == 1) = true ∧
    ok (.pgRise 1) (up .s0 3 1) (fun t => t.pwr.en == 7) = true ∧
    ok (.pgRise 2) (up .s0 7 3) (fun t => t.pwr.en == 15 && t.mem.stk[5].st == .training) = true ∧
    ok (.pgRise 2) (up .s2 7 3) (fun t => t.pwr.en == 7) = true ∧
    ok (.pgRise 3) (up .s0 15 7) (fun t => t.pwr.en == 0x1F && t.pwr.coreEnAt == some 0) = true ∧
    ok (.pgRise 7) (up .s0 0xFF 0x7F) (fun t => t.pwr.en == 0x1FF) = true ∧
    ok (.pgRise 4) (up .s0 0xFF 0xF) (fun t => t.pwr.en == 0xFF) = true ∧ s3.core.recordLost = false ∧
    ok (.pgRise 8) (up .s0 0x1FF 0xFF) (fun t => t.pwr.pg == 0x1FF) = true ∧
    runs (.pgRise 5) (up .s0 0xF 7) = true ∧
    (mpSettled (risen .s0) = true ∧ stacksReady (risen .s0) = true ∧ (∀ r ∈ railsFor .s0, railUp (risen .s0) r = true)) ∧
    (mpSettled (up .s0 0x1FF 0x1FF) = false ∧ runs .powerUpComplete (up .s0 0x1FF 0x1FF) = true) ∧
    ok .powerUpComplete (risen .s0) (fun t => t.pwr.pstate == .s0 && t.pwr.seq == none) = true ∧
    ok .powerUpComplete ((risen .s0).onPwr fun p => { p with seq := some { up := true, target := .s0, thenS1 := true } })
      (fun t => t.pwr.pstate == .s0 && t.pwr.target == .s1) = true ∧
    ok .powerUpComplete ((risen .s2).onMem fun m => { m with stk := vmod m.stk 5 fun k => { k with st := .inService } })
      (fun t => t.pwr.pstate == .s2 && t.mem.stk[5].st == .selfRefresh) = true ∧
    (let s := { (risen .s0) with port := { on.port with ctx := [⟨.host, 5, 3, 0x101, [0], true, true, false, false⟩] } }
     ok .powerUpComplete (s.onPwr fun p =>
         { p with wakePin := true, seq := some { up := true, target := .s0, host := true, req := some (.host, 5) } })
       (fun t => (sget (t.win .host).replies 5).map (fun a => (a.status, a.words.length)) == some (0, 2) && !t.pwr.wakePin) = true) := by
  decide +kernel

theorem wit_RailsDownAndFailing :
    -- a PG that does not rise: the last rail of the S2 group, and the first rail above it
    (inS0S1 (up .s0 7 3) = false ∧ ok (.pgTimeout 2) (up .s0 7 3) (fun t => t.pwr.target == .s3 && t.pwr.failedRail == 2) = true) ∧
    ok (.pgTimeout 3) (up .s0 15 7) (fun t => t.pwr.pstate == .s2 && t.pwr.seq == none) = true ∧
    ((∀ x ∈ downOrder .s2, (up .s0 15 7).pwr.pg.getLsbD x = false) ∧ s3.vlv.forcedRail = false) ∧
    ok (.pgTimeout 0) ((up .s0 1 0).onPwr fun p => { p with failures := [0, 0] }) (fun t => t.pwr.lockout && t.pwr.pstate == .s3) = true ∧
    -- a power-down from S2
    (s2.pwr.pstate = .s2 ∧ s2.pwr.stuck = 0) ∧
    ok (.railDown 2) (down 3 7) (fun t => t.pwr.pg == 3 && t.pwr.en == 1) = true ∧
    ok (.pgStuck 2) (down 3 7) (fun t => t.pwr.stuck == 4 && t.pwr.en == 1) = true ∧
    ok (.railDown 0) (down 0 1) (fun t => t.pwr.pstate == .s3 && t.pwr.seq == none) = true ∧
    (down 3 7).pwr.pg.getLsbD 8 = false ∧
    runs (.railDown 8) (down 3 7) = true ∧ runs (.pgStuck 0) (down 3 7) = true ∧
    -- failures: of a rail that is not good, of rail 8, of rail 3 whose dependents are up, without and with a trip
    railUp s2 8 = false ∧ runs (.railFailure 8) s2 = true ∧
    (railUp on 8 = true ∧ toLower on 8 = false ∧
      ok (.railFailure 8) on (fun t => t.pwr.pg == 0xFF && t.pwr.en == 0x7F && t.pwr.failedRail == 8) = true) ∧
    (railUp on 3 = true ∧ ((dependents 3).any fun d => on.pwr.pg.getLsbD d) = true ∧ on.welt.leakTrip = false ∧
      ok (.railFailure 3) on (fun t => t.pwr.en == 0 && t.pwr.pdseq == some 3 && t.vlv.forcedRail) = true) ∧
    ok (.railFailure 3) (on.onWelt fun w => { w with leakTrip := true })
      (fun t => t.pwr.en == 0 && t.pwr.pdseq == none && !t.vlv.forcedRail) = true ∧
    -- a rail that the running power-down is still to lower
    (railUp (down 3 3) 1 = true ∧ toLower (down 3 3) 1 = true ∧ ((dependents 1).any fun d => (down 3 3).pwr.pg.getLsbD d) = false ∧
      ok (.railFailure 1) (down 3 3) (fun t => t.pwr.failedRail == 1 && t.pwr.failures.length == 1 && t.pwr.event == 0) = true) := by
  decide +kernel

/-- A word of PWR_STATE_SET. -/
def stateArg (mhz tgt : Nat) : List Word := [mkW [(16, mhz), (0, tgt)]]
def trip : State := s3.onWelt fun w => { w with leakTrip := true }
def s2w : State := s2.onPwr fun p => { p with en := 7, pg := 7 }
def s1 : State := on.onPwr fun p => { p with pstate := .s1, target := .s1 }

theorem wit_PowerOpcodes :
    ans 0x101 .pwrStateSet (reqT (stateArg 0 0)) ((up .s2 1 0).onSec fun c => { c with mpRun := true }) 2 = true ∧
    ends 0x101 .pwrStateSet (req (stateArg 1777 0)) on 0 (fun ws t => ws.head? == some (wd (stateArg 1800 0) 0) && t.pwr.clkReq == some 1800) = true ∧
    ans 0x101 .pwrStateSet (reqT (stateArg 0 1)) (s3.onSec fun c => { c with mpRun := true }) 7 = true ∧
    ans 0x101 .pwrStateSet (reqT (stateArg 0 2)) trip 6 = true ∧ wakeRefused trip = true ∧ s3.welt.test = none ∧
    (readyB 0x101 (reqT (stateArg 0 2)) s3 = true ∧
      ok (.pwrStateSet (reqT (stateArg 0 2))) s3 (fun t => t.pwr.en == 1 && t.port.ctx.length == 1) = true) ∧
    (readyB 0x101 (req (stateArg 0 1)) s2 = true ∧ wakeRefused s2 = false ∧
      ok (.pwrStateSet (req (stateArg 0 1))) s2 (fun t => t.pwr.en == 9 && t.mem.stk[0].st == .training) = true) ∧
    ans 0x101 .pwrStateSet (req (stateArg 0 3)) (on.onLast fun l => { l with st := .running }) 2 = true ∧
    ans 0x101 .pwrStateSet (req (stateArg 0 0)) (s1.onLast fun l => { l with st := .paused }) 2 = true ∧
    ans 0x101 .pwrStateSet (req (stateArg 0 0)) (s1.onWelt fun w => { w with leakTrip := true }) 6 = true ∧
    (s2w.pwr.pg = 7 ∧ s2w.pwr.en = 7 ∧ ans 0x101 .pwrStateSet (req (stateArg 0 3)) s2w 0 = true) ∧
    (on.pwr.pg = 0x1FF ∧ on.pwr.en = 0x1FF ∧ ok (.pwrStateSet (req (stateArg 0 3))) on (fun t => t.pwr.en == 0xFF) = true) ∧
    -- a request while a transition of another port runs
    (let x : Ctx := ⟨.host, 9, 3, 0x101, [0], true, true, false, false⟩
     let s := { on with port := { on.port with ctx := [x] }, pwr := { on.pwr with seq := some { target := .s1, atBoundary := true } } }
     inTransition x = true ∧ postChecks s .tray 3 0x101 1 (stateArg 0 1) = none ∧
     serverOf s .tray 0x101 (keptWords 0x101 (stateArg 0 1)) ≠ .off ∧ peerUp s 0x101 (keptWords 0x101 (stateArg 0 1)) = true ∧
     ok (.pwrStateSet (reqT (stateArg 0 1))) s (fun t => t.port.ctx == [x] &&
       (sget (t.win .tray).replies 5).map (·.status) == some 2) = true) ∧
    (lastBusy on = false ∧ ok (.pwrStateSet (req (stateArg 0 1))) on (fun t => t.pwr.target == .s1 && t.port.ctx.length == 1) = true) ∧
    (readyB 0x101 (req (stateArg 0 0)) s1 = true ∧ s1.last.st ≠ .paused ∧
      ok (.pwrStateSet (req (stateArg 0 0))) s1 (fun t => t.pwr.target == .s0 && t.pwr.pstate == .s1) = true) ∧
    ends 0x102 .pwrCapSet (req [239]) on 0 (fun ws t => ws.head? == some 240 && t.pwr.hostW == 240) = true ∧
    ends 0x102 .pwrCapSet (req [0xFFFF]) on 0 (fun _ t => t.pwr.hostW == 1600) = true ∧
    (computeOn on = true ∧ on.pwr.clkReq = none ∧ computeOn s2 = false) ∧
    (600 ≤ on.pwr.clkMhz ∧ ok .clockChangeApply (on.onPwr fun p => { p with clkReq := some 600 }) (fun t => t.pwr.clkMhz == 600) = true) ∧
    (let p := { on.pwr with clkMhz := 600, clkReq := some 1800 }
     voltConfirmed p 1800 = false ∧ ok .clockChangeApply { on with pwr := p } (fun t => t.pwr.clkMhz == 600) = true ∧
     voltConfirmed { p with vout := Vector.replicate 9 2000 } 1800 = true ∧
     ok .clockChangeApply { on with pwr := { p with vout := Vector.replicate 9 2000 } } (fun t => t.pwr.clkMhz == 1800) = true) := by
  decide +kernel

theorem wit_BoardPowerEvents :
    (on.isl.on = true ∧ on.pwr.brake = false) ∧
    runs .pwrBrakeAssert (on.onPwr fun p => { p with brake := true }) = true ∧
    ok .pwrBrakeAssert on (fun t => t.pwr.inForceW == 400 && t.pwr.issue == 4 && t.pwr.brakeCnt == 1) = true ∧
    runs .pwrBrakeDeassert on = true ∧
    (∀ r ∈ ([8] : List (Fin 9)), railUp s2 r.val = false) ∧ runs (.smbalert [8]) s2 = true ∧
    runs (.railFailure 8) on = true ∧ ok (.smbalert [8]) on (fun t => t.pwr.failedRail == 8) = true ∧
    ok (.smbalertAraTimeout [8]) on (fun t => t.pwr.failedRail == 8 && t.pwr.smbAlert) = true ∧
    (List.replicate 9 (750, 100)).length = 9 ∧
    ok (.pmbusPoll (List.replicate 9 (750, 100))) on (fun t => t.pwr.vout[8] == 750 && t.pwr.iout[0] == 100) = true := by
  decide +kernel

/-- A message of the tray on channel 6, in a state. -/
def trayM (w : Word) (s : State) : State :=
  s.onMbx fun m => { m with ch := vmod m.ch 6 fun x => { x with doorbell := true, data := vmod x.data 0 fun _ => w } }

theorem wit_WakesAndTrayMessages :
    runs .perstDeassert on = true ∧ (s3.pwr.seq = none ∧ s3.welt.test = none ∧ wakeRefused s3 = false ∧ wakeRefused trip = true) ∧
    ok .perstDeassert trip (fun t => t.pwr.en == 0) = true ∧
    ok .perstDeassert s3 (fun t => t.pwr.en == 1 && t.pwr.wakeCause == 1) = true ∧
    ok .perstDeassert (up .s2 1 0) (fun t => t.pwr.wakeCause == 1) = true ∧
    (trayMsg (trayM 0x201 (up .s2 1 0)) = some 1 ∧ (mbxCh on 6).msgEpoch = (mbxCh on 6).senderEpoch) ∧
    ok .trayPowerUp (trayM 0x201 (up .s2 1 0)) (fun t => (mbxCh t 6).ackCode == 2 && t.pwr.wakeCause == 8) = true ∧
    ok .trayPowerUp (trayM 0x201 on) (fun t => (mbxCh t 6).ackCode == 2) = true ∧
    ok .trayPowerUp (trayM 0x001 trip) (fun t => (mbxCh t 6).ackCode == 1 && (mbxCh t 6).ackValid) = true ∧
    ok .trayPowerUp (trayM 0x201 s3) (fun t => (mbxCh t 6).ackCode == 0 && t.pwr.en == 1) = true ∧
    (on.pwr.seq = none ∧ ok .trayPowerUp (trayM 0x001 s2) (fun t => (mbxCh t 6).ackCode == 0 && t.pwr.en == 9) = true) ∧
    ok .trayPowerUp (trayM 0x001 s1) (fun t => (mbxCh t 6).ackCode == 0 && t.pwr.target == .s0 && t.pwr.wakeCause == 8) = true ∧
    (trayMsg on = none ∧ runs .trayPowerUp on = true ∧ runs .trayClearLockout on = true ∧ runs .trayIslandOff on = true) ∧
    ok .perstDeassert (s3.onPwr fun p => { p with seq := some { target := .s3 } }) (fun t => !t.port.perst) = true ∧
    ok .trayClearLockout (trayM 2 (s3.onPwr fun p => { p with lockout := true })) (fun t => !t.pwr.lockout) = true ∧
    ok .trayIslandOff (trayM 3 (s3.onPwr fun p => { p with markerClean := false })) (fun t => t.pwr.markerClean) = true ∧
    ok .trayIslandOff (trayM 3 (s3.onWelt fun w => { w with thermTrip := true })) (fun t => (mbxCh t 6).ackCode == 0) = true := by
  decide +kernel
/-- The package's flow sensors read a flow; one die sensor reads a temperature in K/64. -/
def flowing (f : Rat) : State :=
  on.onIsl fun i => { i with sens := vmod (vmod i.sens 70 fun x => { x with primed := true, y := f }) 71 fun x => { x with primed := true, y := f } }
def hot (n : Nat) (x : Rat) : State :=
  on.onIsl fun i => { i with
    sens := vmod (Vector.replicate 82 ({ primed := true, y := 1600 } : Sensor)) n fun c => { c with y := x } }

theorem wit_StartupCapLift :
    (2000 ≤ packageFlow (flowing 2000) ∧ packageFlow (flowing 2000) ≤ 4000 ∧ packageFlow (flowing 4000) ≤ 4000) ∧
    ok .startupCapLift (flowing 2000) (fun t => !t.pwr.startup && t.isl.flowValid) = true ∧
    ¬ (2000 ≤ packageFlow on ∧ packageFlow on ≤ 4000) ∧ ok .startupCapLift on (fun t => t.pwr.startup) = true := by
  decide +kernel

/-- An image of one frame with one ADD on a core of cluster 0, for a job of m packages, unsigned. -/
def img (m : Nat) : List Word :=
  [0x4C415354, 0x1004, 61, 0, 1, 0, w32 (m - 1), 0, 0, 1, 16, 1, 20, 27, 0, 0] ++
  [0, mkW [(12, 15)], 0, 0] ++ [0x2007FFFF, 0x01, 0, 64, 128, 1, 0] ++ List.replicate 32 0xFF00FF00 ++ [0, 0]

theorem wit_ThrottleSteps :
    (watched (hot 63 6400) = some (63, 6400) ∧ mpRuns on = true ∧ computeOn on = true) ∧
    ok .throttleRise (hot 63 6400) (fun t => t.pwr.dReq == 1 && t.pwr.thrCluster == 63) = true ∧
    (watched (hot 63 6399) = none ∧ ok .throttleRise (hot 63 6399) (fun t => t.pwr.dReq == 0) = true) ∧
    (let s := (hot 63 6399).onPwr fun p => { p with dReq := 1, thrCluster := 63 }
     watched s = some (63, 6399) ∧ ok .throttleRise s (fun t => t.pwr.dReq == 1) = true) ∧
    (let s := (hot 63 6207).onPwr fun p => { p with dReq := 8, thrCluster := 63 }
     clusterTemp s 63 = some 6207 ∧ ok .throttleFall s (fun t => t.pwr.dReq == 7) = true) ∧
    on.pwr.dReq = 0 ∧ runs .throttleFall on = true ∧
    (let s := ((hot 0 6400).onLast fun l => { l with st := .running, active := img 1 }).onPwr fun p => { p with dReq := 8 }
     dSlackMax s ≤ 8 ∧ dSlackMin s ≤ 8 ∧ runs .pwrThrottleEscalate s = true) ∧
    (let s := ((hot 0 6400).onLast fun l => { l with st := .running }).onPwr fun p => { p with dReq := 1, thrCluster := 0 }
     watched s = some (0, 6400) ∧ dSlackMax s ≤ 1 ∧ dSlackMin s < min 8 2 ∧ ok .pwrThrottleEscalate s (fun t => t.pwr.escalated) = true) ∧
    runs .pwrThrottleEscalate (on.onPwr fun p => { p with escalated := true }) = true ∧
    (∀ y ∈ dieReadings (hot 0 6719), y < 105 * 64) ∧ 105 * 64 ∈ dieReadings (hot 0 6720) ∧
    ok .thermalLimitRelease ((hot 0 6719).onPwr fun p => { p with thermal800 := true }) (fun t => !t.pwr.thermal800) = true ∧
    ok .thermalLimitRelease ((hot 0 6720).onPwr fun p => { p with thermal800 := true }) (fun t => t.pwr.thermal800) = true ∧
    runs .shedLimitRise on = true ∧
    (let s := (on.onLast fun l => { l with st := .loaded, active := (img 1).set 60 0x03E803E8 }).onPwr fun p => { p with pkgW := 2000 }
     warmMeanMw s / 1000 ≤ 2000 ∧ ok .warmReached s (fun t => t.pwr.warm) = true ∧
     0 < warmMeanMw s / 1000 ∧ ok .warmReached (s.onPwr fun p => { p with pkgW := 0 }) (fun t => !t.pwr.warm) = true) ∧
    on.last.st ≠ .loaded := by decide +kernel

/-! ## The Last -/

/-- The image with a signature block under key slot 7. -/
def imgSig : List Word :=
  ((img 1).set 2 87).set 14 61 ++ [1, 7] ++ List.replicate 24 0

/-- A Last in a state, of a job of m packages that this package leads. -/
def lastIn (st : LastSt) (m : Nat) (f : LastBlk → LastBlk) : State :=
  (on.onLace fun l => { l with idValid := true }).onLast fun l => f { l with st := st, active := img m, members := m, jobGiven := true }

/-- The same of a job that package 1 leads. -/
def memberIn (st : LastSt) (f : LastBlk → LastBlk) : State := lastIn st 2 fun l => f { l with leaderId := 1 }

/-- An active lane 0, which leads to slot 1 of the rack. -/
def act : Lane := { st := .active, ver := 3, peer := 1 }

/-- A state whose lane 0 is active. -/
def wired (s : State) : State := s.onLace fun l => { l with lanes := vmod l.lanes 0 fun _ => act }

theorem wit_FrameBoundaries :
    inS0S1 s2 = false ∧ begins (lastIn .running 1 id) = .stay ∧ computeOn on = true ∧ inS0S1 on = true ∧
    ok (.frameBoundary 0 100) (lastIn .running 1 fun l => { l with ready := true })
      (fun t => t.last.f == 0 && t.last.pass == 1 && t.pwr.pkgW == 100) = true ∧
    ok (.frameBoundary 1 100) (lastIn .running 1 fun l => { l with ready := true, active := l.active.set 3 9 })
      (fun t => t.last.f == 1 && t.last.pass == 0 && t.last.stretchCnt == 1) = true ∧
    (lastIn .running 1 id).last.ready = false ∧
    ok (.frameBoundary 0 100) (lastIn .running 1 fun l => { l with ready := true, pausePending := true })
      (fun t => t.last.st == .paused && t.pwr.pstate == .s1) = true ∧
    ok (.frameBoundary 0 100) (lastIn .paused 1 fun l => { l with resumePending := true })
      (fun t => t.last.st == .running && t.pwr.pstate == .s0) = true ∧
    ok (.frameBoundary 0 100) (lastIn .paused 1 fun l => { l with resumePending := true, pausedBeforeFrame0 := true, f := 3 })
      (fun t => t.last.st == .running && t.last.f == 0) = true ∧
    ok (.frameBoundary 0 100) (lastIn .paused 1 id) (fun t => t.last.st == .paused) = true ∧
    ok (.frameBoundary 0 100) (lastIn .loaded 1 fun l => { l with startPending := true }) (fun t => t.last.st == .running) = true ∧
    ok (.frameBoundary 0 100) (lastIn .loaded 1 id) (fun t => t.last.st == .loaded) = true ∧
    ok (.frameBoundary 0 100) (lastIn .running 1 fun l => { l with ready := true, armed := some true, standby := img 1, standbyValid := true })
      (fun t => t.last.inSwitch && t.last.st == .running) = true ∧
    ok (.frameBoundary 0 100) (lastIn .running 1 fun l => { l with ready := true, armed := some false, standby := img 1, standbyValid := true })
      (fun t => t.last.inSwitch && t.last.oldPeriod == 0) = true ∧
    ok (.frameBoundary 0 100) (lastIn .running 1 fun l =>
        { l with inSwitch := true, switched := true, armed := some true, pausePending := true })
      (fun t => !t.last.inSwitch && t.last.st == .paused && t.last.pausedBeforeFrame0) = true ∧
    framePeriodCode (lastIn .running 1 fun l => { l with inSwitch := true, oldPeriod := 2 }) = 2 ∧
    framePeriodCode (lastIn .running 1 id) = 0 ∧ lastBusy on = false ∧
    ok (.frameBoundary 0 100) (lastIn .running 1 fun l => { l with inSwitch := true, switched := true, armed := some true, f := 5 })
      (fun t => !t.last.inSwitch && t.last.armed == none && t.last.f == 0 && t.last.event.getLsbD 3) = true := by decide +kernel

theorem wit_SwitchReadyAndMarker :
    (let s := lastIn .running 1 fun l => { l with inSwitch := true, standby := img 1, standbyValid := true }
     (∀ h : Fin 6, s.mem.stk[h].retireWaiting = false) ∧ (∀ n : Fin 64, s.core.clusters[n].change = none) ∧
     s.sec.secRun = true ∧ ok .lastSwitchFrame s (fun t => t.last.switched && t.last.active == img 1) = true) ∧
    on.last.inSwitch = false ∧ runs .lastSwitchFrame on = true ∧
    -- a leader's frame with its chain done, and with it still to run
    (let s := lastIn .running 1 fun l => { l with chains := [(0, 0x10000)] }
     packageDone s = true ∧ s.last.leaderId = ownId s ∧ ok (.packageReady none) s (fun t => t.last.ready) = true) ∧
    (packageDone (lastIn .running 1 id) = false ∧ ok (.packageReady none) (lastIn .running 1 id) (fun t => !t.last.ready) = true) ∧
    -- a member whose leader is slot 1: its lane up is lane 0
    (let s := wired (memberIn .loaded fun l => { l with standbyValid := true })
     packageDone s = true ∧ s.last.leaderId ≠ ownId s ∧ fwdOf s.lace (jobByte s) = none ∧
     symbolLane s (upLane s s.last.leaderId) = some 0 ∧
     ok (.packageReady none) s (fun t => t.lace.readyOut == [(0, true, 0)]) = true) ∧
    -- a ready bit from below, at the leader, and at a package that only forwards
    (let s := wired (lastIn .running 2 fun l => { l with ready := true })
     let f : JobFwd := { job := 0, leader := 0, members := [1], lanes := [0] }
     let u : State := { s with lace := { s.lace with fwds := [f] } }
     fwdOf u.lace (256 % 256) = some f ∧ isLeader u = true ∧ jobByte u = 256 % 256 ∧
     ok (.packageReady (some (256, 0, true))) u (fun t => t.lace.fwds == [{ f with ready := [0], standby := [0] }]) = true ∧
     -- its marker once the bit has come, and not before
     (let v := { u with lace := { u.lace with fwds := [{ f with ready := [0] }] } }
      jobReady v = true ∧ nextBegin u = .stay ∧ runs (.markerEmit 7) u = true ∧
      ok (.markerEmit 7) v (fun t => (t.last.markerOut.map fun m => (m.f, m.acc)) == some (0, 7) && t.lace.symbolsOut.length == 1) = true)) ∧
    (let f : JobFwd := { job := 9, leader := 1, members := [5], lanes := [4], standby := [4] }
     let s := wired (memberIn .running id)
     let u : State := { s with lace := { s.lace with fwds := [f], lanes := vmod s.lace.lanes 4 fun _ => { act with peer := 5 } } }
     jobByte u ≠ 9 ∧ f.leader ≠ ownId u ∧ symbolLane u (upLane u f.leader) = some 0 ∧
     ok (.packageReady (some (9, 4, true))) u (fun t => t.lace.readyOut == [(9, true, 0)]) = true) ∧
    isLeader (memberIn .running id) = false := by decide +kernel

/-- A marker for frame 1 of the job. -/
def mark (fault : Bool) (period : Nat) : Marker := ⟨0, 1, period, 0, false, false, fault, false, 100⟩

theorem wit_FaultsAndShedding :
    (let s := wired (memberIn .running id)
     (inS0S1 s = true ∧ computeOn s = true ∧ laneActive s 0 = true) ∧ 1 < s.last.members ∧ isLeader s = false ∧
     (mark false 3).job = jobByte s ∧ markerFits s (mark false 3) = false ∧
     markerFits s { mark false 0 with f := 1 } = false ∧ markerFits s { mark false 0 with job := 1 } = false ∧
     fwdOf s.lace 1 = none ∧ markerFits s (mark true 0) = true ∧
     ok (.frameMarkerReceive (mark false 0) 0 0) s
       (fun t => t.last.markerIn == some (mark false 0) && t.last.bndDelay == 500000 - 100) = true ∧
     lastBusy s = true ∧ s.last.markerIn = none ∧
     ok (.shedNoticeReceive { mark false 0 with shedFlag := true } 0 0) s (fun t => t.pwr.shedW == 1520 && t.last.shedCnt == 1) = true ∧
     1 ≠ s.last.jobId % 256 ∧ ok (.shedNoticeReceive { mark false 0 with shedFlag := true, job := 1 } 0 0) s (fun t => t.pwr.shedW == 1600) = true) ∧
    (laneActive on 0 = false ∧ runs (.frameMarkerReceive (mark false 0) 0 0) on = true) ∧
    -- a package outside the job passes the symbol on from lane 0 to lane 4
    (let f : JobFwd := { job := 0, leader := 1, members := [5], lanes := [4] }
     let s := wired (lastIn .running 1 id)
     let u : State := { s with lace := { s.lace with fwds := [f], lanes := vmod s.lace.lanes 4 fun _ => { act with peer := 5 } } }
     laneRelays u 0 = true ∧ 4 ∈ treeLanes u 0 ∧ laneRelays u 4 = true ∧
     ok (.frameMarkerReceive (mark false 0) 0 60) u (fun t => t.lace.symbolsOut.any fun x => x.2 == 4 && x.1.acc == 160) = true) ∧
    runs .memberMarkerTimeout (lastIn .running 1 id) = true ∧
    (lastBusy (lastIn .running 2 id) = true ∧ nextBegin (lastIn .running 2 id) = .stay ∧ isLeader (lastIn .running 2 id) = true) ∧
    (nextBegin (lastIn .running 1 fun l => { l with ready := true }) ≠ .stay ∧
      runs .frameFaultTimeout (lastIn .running 1 fun l => { l with ready := true }) = true) ∧
    ok .shedNotice (lastIn .running 1 id) (fun t => t.pwr.shedW == 1520 && t.last.shedCnt == 1 && t.last.shedSent) = true ∧
    ok .shedNotice (lastIn .running 1 fun l => { l with shedSent := true }) (fun t => t.pwr.shedW == 1600) = true ∧
    runs .shedNotice (memberIn .running id) = true := by decide +kernel

theorem wit_LastLoadAndCommit :
    ans 0x300 .lastLoad (req [15]) s2 7 = true ∧ ans 0x301 .lastCommit (req []) s2 7 = true ∧
    -- the first of the later checks that fails
    (let s := lastIn .loaded 1 fun l => { l with standby := img 1, standbyIncomplete := true }
     checkFirst s s.last.standby = none ∧ checkLife s s.last.standby = none ∧ checkRest s s.last.standby = some (0x0C, 61) ∧
     ends 0x301 .lastCommit (req []) s 9 (fun ws _ => ws == [0x3D0C]) = true) ∧
    ans 0x300 .lastLoad (req [15]) (on.onLast fun l => { l with armed := some true }) 2 = true ∧
    windowBusy on .host 1 0 = false ∧ ends 0x300 .lastLoad (req [15]) on 0 (fun _ t => (t.win .host).left == 16) = true ∧
    -- an image that fails with each reason of the first five, and one that is accepted in EMPTY and in LOADED
    ends 0x301 .lastCommit (req []) (on.onLast fun l => { l with standby := [0] }) 9 (fun ws _ => ws == [1]) = true ∧
    ends 0x301 .lastCommit (req []) (on.onLast fun l => { l with standby := [0x4C415354, 0x1005] }) 5 (fun ws _ => ws == [0x102]) = true ∧
    ends 0x301 .lastCommit (req []) (on.onLast fun l => { l with standby := [0x4C415354, 0x1004, 4] }) 9 (fun ws _ => ws == [0x203]) = true ∧
    ends 0x301 .lastCommit (req []) ((on.onLast fun l => { l with standby := img 1 }).onSec fun c => { c with life := .production }) 6
      (fun ws _ => ws == [0xE05]) = true ∧
    (let s := lastIn .loaded 1 fun l => { l with standby := img 1 }
     checkFirst s (img 1) = none ∧ checkLife s (img 1) = none ∧ checkRest s (img 1) = none ∧ sigOff (img 1) = 0 ∧
     ends 0x301 .lastCommit (req []) s 0 (fun _ t => t.last.standbyValid) = true) ∧
    (lastIn .empty 1 id).last.st = .empty ∧
    ends 0x301 .lastCommit (req []) (lastIn .empty 1 fun l => { l with standby := img 1, active := [] }) 0
      (fun _ t => t.last.st == .loaded && t.last.active == img 1) = true := by decide +kernel

/-- A signed image passes each check if its signature verifies, which is a free value (notes/assumptions/87). -/
theorem wit_signed_image :
    sigOff imgSig ≠ 0 ∧
    (let s := lastIn .loaded 1 fun l => { l with standby := imgSig }
     let t := s.onSec fun c => { c with ownerKeys := 0xF }
     checkLife t imgSig = none ∧ checkRest t imgSig = none ∧ checkHeader imgSig = none ∧ checkLayout imgSig = none ∧
     slotEnabled t 7 = true ∧ checkFirst s imgSig = some (4, 61)) := by decide +kernel

def jobArg : List Word := [0x12345678, 0x00FF0001]

theorem wit_LastJobOpcodes :
    (ans 0x302 .lastJobSet (req jobArg) s2 7 && ans 0x303 .lastStart (req []) s2 7 && ans 0x304 .lastSwitch (req [1]) s2 7 &&
      ans 0x305 .lastPause (req []) s2 7 && ans 0x306 .lastResume (req []) s2 7 && ans 0x307 .lastUnload (req [0]) s2 7) = true ∧
    (let s := memberIn .running id
     (ans 0x303 .lastStart (req []) s 6 && ans 0x304 .lastSwitch (req [1]) s 6 && ans 0x305 .lastPause (req []) s 6 &&
      ans 0x306 .lastResume (req []) s 6 && ans 0x302 .lastJobSet (req jobArg) s 2) = true) ∧
    ends 0x302 .lastJobSet (req jobArg) (lastIn .loaded 1 id) 0
      (fun _ t => t.last.jobId == 0x1234 && t.last.leaderId == 0x678 && t.last.members == 1 && t.last.faultTimeout == 255) = true ∧
    ends 0x303 .lastStart (req []) (lastIn .loaded 1 id) 0 (fun _ t => t.last.startPending && t.pwr.coldStart == some 0) = true ∧
    ans 0x303 .lastStart (req []) (lastIn .faulted 1 fun l => { l with jobSet := true }) 0 = true ∧
    ans 0x303 .lastStart (req []) (lastIn .empty 1 id) 2 = true ∧
    ends 0x304 .lastSwitch (req [1]) (lastIn .paused 1 fun l => { l with standbyValid := true }) 0 (fun _ t => t.last.armed == some true) = true ∧
    ans 0x304 .lastSwitch (req [1]) (lastIn .running 1 id) 2 = true ∧
    ends 0x305 .lastPause (req []) (lastIn .running 1 id) 0 (fun _ t => t.last.pausePending) = true ∧
    ans 0x305 .lastPause (req []) (lastIn .loaded 1 id) 2 = true ∧
    ends 0x306 .lastResume (req []) (lastIn .paused 1 id) 0 (fun _ t => t.last.resumePending) = true ∧
    ans 0x306 .lastResume (req []) (lastIn .running 1 id) 2 = true ∧
    ends 0x307 .lastUnload (req [1]) (lastIn .loaded 1 fun l => { l with standbyValid := true }) 0 (fun _ t => !t.last.standbyValid) = true ∧
    ans 0x307 .lastUnload (req [1]) (lastIn .loaded 1 fun l => { l with armed := some true }) 2 = true ∧
    ans 0x307 .lastUnload (req [0]) (lastIn .empty 1 id) 0 = true ∧
    ends 0x307 .lastUnload (req [0]) (lastIn .paused 1 fun l => { l with standby := img 1, standbyValid := true }) 0
      (fun _ t => t.last.st == .loaded && t.last.active == img 1 && !t.last.standbyValid) = true ∧
    (let s := wired (lastIn .loaded 1 id)
     symbolLane s (upLane s 1) = some 0 ∧
     ends 0x302 .lastJobSet (req [0x12340001, 2]) s 0 (fun _ t => t.lace.joinOut == [(0x34, 1, 0, 0)]) = true) ∧
    ans 0x307 .lastUnload (req [0]) (lastIn .running 1 id) 2 = true ∧
    (∀ n : Fin 64, on.core.clusters[n].deferred = []) ∧
    ends 0x307 .lastUnload (req [0]) (lastIn .paused 1 id) 0 (fun _ t => t.last.st == .empty && t.last.active == []) = true := by
  decide +kernel

/-! ## Lace -/

/-- Lace with an identity and light, lane n in a state. -/
def lane (n : Nat) (x : Lane) : State :=
  on.onLace fun l => { l with idValid := true, light0 := true, light1 := true, lanes := vmod l.lanes n fun _ => x }

/-- An outstanding transaction with tag 8191, and stacks in service. -/
def txn (write : Bool) : Txn :=
  { tag := 8191, holder := .descriptor, target := 1, sled := false, write := write, len := 4, place := .hbm 5 64 }
def txnS (write : Bool) : State :=
  ((lane 0 act).onLace fun l => { l with txns := [txn write], gens := [(8191, 7)] }).onMem fun m =>
    { m with stk := Vector.replicate 6 { st := .inService }, systemStack := 0 }
theorem wit_LaceLaneEvents :
    (laneOf (lane 0 act) 0).st = .active ∧
    ok (.lossOfSignal 0) (lane 0 act) (fun t => (laneOf t 0).st == .down && (laneOf t 0).fail == 6) = true ∧
    (laneOf (lane 0 act) 126).st ≠ .active ∧ runs (.replayExhaust 126) (lane 0 act) = true ∧
    (replaysOf act 0xFFF = 0 ∧ ok (.flitReplay 0 0xFFF 2000) (lane 0 act)
      (fun t => t.lace.replayCnt == 1 && (laneOf t 0).replay == some (0xFFF, 1)) = true) ∧
    (let y : Lane := { act with replay := some (7, 8) }
     replaysOf y 7 = 8 ∧ ok (.flitReplay 0 7 0) (lane 0 y) (fun t => (laneOf t 0).st == .down) = true ∧
     ok (.flitReplay 0 7 0) (lane 0 { y with replay := some (7, 7) }) (fun t => (laneOf t 0).replay == some (7, 8)) = true) ∧
    ok (.flitReplay 0 7 2001) (lane 0 act) (fun t => (laneOf t 0).st == .down && (laneOf t 0).fail == 6) = true ∧
    runs (.flitReplay 126 0 0) (lane 0 act) = true ∧ runs (.retireSymbolReceive 126) (lane 0 act) = true ∧
    ok (.retireSymbolReceive 0) (lane 0 act) (fun t => (laneOf t 0).st == .retired) = true ∧
    (opticalOn on = true ∧ laneLs0 0 = true ∧ laneLs0 48 = false) ∧
    ok (.lightLoss 0) (lane 0 act) (fun t => (laneOf t 0).st == .waitLight && t.lace.event == 1) = true ∧
    ok (.lightLoss 1) (lane 48 act) (fun t => (laneOf t 48).st == .waitLight && t.lace.event == 2) = true ∧
    ok (.lightLoss 0) ((lane 0 act).onLace fun l => { l with light0 := false }) (fun t => (laneOf t 0).st == .active) = true ∧
    (laneDark (lane 0 act) 0 = false ∧ (lane 0 act).lace.retired = 0) ∧
    (let y : Lane := { act with st := .waitLight, record := some (1, 2, 3) }
     ok (.lightRestored 0) ((lane 0 y).onLace fun l => { l with light0 := false }) (fun t => (laneOf t 0).fast) = true ∧
     ok (.lightRestored 0) ((lane 0 { y with wantFull := true }).onLace fun l => { l with light0 := false })
       (fun t => !(laneOf t 0).fast && (laneOf t 0).st == .training) = true) ∧
    ok (.lightRestored 0) ((lane 0 { act with st := .waitLight }).onLace fun l => { l with light0 := false })
      (fun t => (laneOf t 0).st == .training && t.lace.light0) = true ∧
    (lanePeer (lane 0 act) 0 = some (decide (2048 ≤ 1), 1 % 2048) ∧ lanePeer (lane 0 act) 0 ≠ some (decide (2048 ≤ 2049), 2049 % 2048)) ∧
    ((∀ y ∈ (lane 0 act).lace.txns, ¬ (y.target = 1 ∧ y.sled = false)) ∧ (lane 0 act).lace.idValid = true ∧ act.peerRetired = false) ∧
    runs (.peerResetReceive 1) s2 = true ∧ opticalOn s2 = false ∧
    ((txnS true).lace.txns = [txn true] ∧ (txnS true).lace.waiting = [] ∧ (txn true).target = 1 % 2048 ∧
      (txn true).sled = decide (2048 ≤ 1) ∧ (txn true).write = true ∧ (txn true).holder = .descriptor) := by decide +kernel

def trainS (fast : Bool) : State := lane 0 { st := .training, fast := fast }

theorem wit_LaneTraining :
    (laneOf (lane 0 act) 126).st ≠ .training ∧ runs (.laneTrainingDone 126 .light) (lane 0 act) = true ∧
    ok (.laneTrainingDone 0 .light) (trainS false) (fun t => (laneOf t 0).fail == 1 && (laneOf t 0).st == .failed) = true ∧
    ok (.laneTrainingDone 0 .ring) (trainS true) (fun t => (laneOf t 0).st == .training && !(laneOf t 0).fast) = true ∧
    ok (.laneTrainingDone 0 .symbol) (trainS false) (fun t => (laneOf t 0).fail == 3) = true ∧
    (lanePeer (trainS false) 0 ≠ some (true, 1) ∧
      ok (.laneTrainingDone 0 (.peer true 1 3 1 9 100 7)) (trainS false) (fun t => (laneOf t 0).fail == 5 && (laneOf t 0).accessNs == 9 && t.lace.event.getLsbD 3) = true) ∧
    (lanePeer (trainS false) 0 = some (false, 1) ∧ versionFor (trainS false) 5 4 = none ∧
      ok (.laneTrainingDone 0 (.peer false 1 5 4 0 100 7)) (trainS false) (fun t => (laneOf t 0).fail == 4) = true) ∧
    (versionFor (trainS false) 2 1 = some 2 ∧
      ok (.laneTrainingDone 0 (.peer false 1 2 1 0 100 7)) (trainS false)
        (fun t => (laneOf t 0).st == .active && (laneOf t 0).ver == 2 && (laneOf t 0).record == some (7, 100, 2)) = true) := by
  decide +kernel

def reqIn (copy write : Bool) (stack : Nat) : LaceReq :=
  ⟨1, 9, 2, write, none, false, stack, 0, 0, 64, 4, [1, 2, 3, 4], [], copy, none⟩

theorem wit_LaceTransactions :
    (MemoriesCanonical (txnS true) ∧ MemoriesCanonical (txnS false)) ∧
    ((txnS true).lace.waiting = [] ∧ (txnS true).lace.held = [] ∧ opticalOn (txnS true) = true ∧ genOf (txnS true).lace 8191 = 7) ∧
    ok (.laceReply 8191 6 (.ok [] [])) (txnS true) (fun t => t.lace.lateDrop == 1 && t.lace.txns.length == 1) = true ∧
    ok (.laceReply 8191 7 (.ok [] [])) (txnS true) (fun t => t.lace.txns == []) = true ∧
    ok (.laceReply 8191 7 (.ok [9, 0, 8, 7] [])) (txnS false) (fun t => t.mem.hbm.read (hbmBase 5 + 64) 4 == [9, 0, 8, 7]) = true ∧
    ok (.laceReply 8191 7 .remoteError) (txnS true) (fun t => t.lace.event == 0x200) = true ∧
    ok (.laceTimeout (.tag 8191)) (txnS true) (fun t => genOf t.lace 8191 == 0 && t.lace.event == 0x80) = true ∧
    ok (.laceReply 8191 7 .remoteError) ((txnS true).onLace fun l => { l with txns := [{ txn true with holder := .spill }] })
      (fun t => t.mem.event == 0x40 && t.lace.txns == []) = true ∧
    ok (.laceTimeout (.tag 8191)) (txnS false) (fun t => t.mem.hbmPoison == [(hbmBase 5 + 64) / 32]) = true ∧
    (let s := (txnS true).onLace fun l => { l with taken := [(8192 + 9, 2)] }
     secondCopy s.lace (reqIn true true 5) = true ∧ ok (.laceRequestReceive (reqIn true true 5)) s (fun t => t.mem.hbm == []) = true) ∧
    (requestPlace (txnS true) (reqIn false true 6) = none ∧
      ok (.laceRequestReceive (reqIn false true 6)) (txnS true) (fun t => t.lace.replyOut == [(1, 9, 2, .remoteError)]) = true) ∧
    (requestPlace (txnS true) (reqIn false true 5) = some (.hbm 5 64) ∧
      ok (.laceRequestReceive (reqIn false true 5)) (txnS true) (fun t => t.mem.hbm.read (hbmBase 5 + 64) 4 == [1, 2, 3, 4]) = true) ∧
    (let s := (txnS true).onMem fun m => { m with hbm := [(hbmBase 5 + 64, 8)] }
     requestPlace s (reqIn false false 5) = some (.hbm 5 64) ∧
     ok (.laceRequestReceive (reqIn false false 5)) s (fun t => t.lace.replyOut == [(1, 9, 2, .ok [8, 0, 0, 0] [])]) = true) ∧
    -- transaction 1 of descriptor 40 before and after transaction 0
    (let q : LaceReq := { reqIn false true 5 with order := some (40, 1) }
     nextIn (txnS true).lace q = false ∧ ok (.laceRequestReceive q) (txnS true) (fun t => t.lace.held == [q] && t.mem.hbm == []) = true ∧
     nextIn (txnS true).lace { q with order := some (40, 0) } = true ∧
     ok (.laceRequestReceive { q with order := some (40, 0) }) ((txnS true).onLace fun l => { l with held := [q] })
       (fun t => t.lace.held == [] && t.lace.replyOut.length == 2) = true) ∧
    (laneRelays (txnS true) 0 = true ∧
      ok (.relayForward 1 false 0) (txnS true) (fun t => t.lace.relayOut == some (1, false, 0)) = true) ∧
    (laneRelays (txnS true) 1 = false ∧ runs (.relayForward 1 false 1) (txnS true) = true) :=
  ⟨⟨⟨by decide, by decide⟩, by decide, by decide⟩, by decide +kernel⟩

theorem wit_LaceOpcodes :
    (ans 0x501 .laceIdSet (req [0x41]) s2 7 && ans 0x502 .laceTrain (req [1, 1]) s2 7 && ans 0x503 .laceConfig (req [0]) s2 7 &&
      ans 0x510 .laceRetire (req [1, 1]) s2 7) = true ∧
    (ans 0x501 .laceIdSet (req [0x41]) (lastIn .running 1 id) 6 && ans 0x502 .laceTrain (req [1, 1]) (lastIn .running 1 id) 6) = true ∧
    ends 0x501 .laceIdSet (req [0x41]) (lane 0 act) 0 (fun _ t => t.lace.rack == 1 && t.lace.slot == 1 && (laneOf t 0).st == .training) = true ∧
    ends 0x502 .laceTrain (req [1, 1]) (lane 0 act) 0 (fun _ t => (laneOf t 7).st == .training && (laneOf t 8).st == .off) = true ∧
    ends 0x503 .laceConfig (req [0]) on 0 (fun ws t => ws == [0x0100000A] && t.lace.timeoutUs == 10 && t.lace.maxVer == 1) = true ∧
    ((maskLanes 0x8000 0x80).any (laneDark on) = true ∧ ans 0x510 .laceRetire (req [0x8000, 0x80]) on 6 = true) ∧
    ((maskLanes 1 1).any (laneDark (lane 0 act)) = false ∧
      ends 0x510 .laceRetire (req [1, 1]) (lane 0 act) 0 (fun _ t => (laneOf t 0).st == .retired && t.lace.retired == 1) = true) ∧
    ends 0x510 .laceRetire (req [0x10001, 1]) ((lane 0 act).onLace fun l => { l with retired := 3 }) 0 (fun _ t => t.lace.retired == 2) = true ∧
    (laneActive (lane 0 act) 0 = true ∧ ok (.join 300 0 5 0) (lane 0 act)
      (fun t => t.lace.fwds == [{ job := 44, leader := 0, members := [5], lanes := [0] }] && t.lace.joinOut == []) = true) ∧
    ok (.join 300 1 6 0) ((lane 0 act).onLace fun l => { l with fwds := [{ job := 44, leader := 1, members := [5], lanes := [0] }] })
      (fun t => t.lace.fwds == [{ job := 44, leader := 1, members := [5, 6], lanes := [0] }] && t.lace.joinOut == [(44, 1, 6, 0)]) = true ∧
    ok (.join 300 0 5 0) ((lane 0 act).onLace fun l =>
        { l with fwds := (List.range 8).map fun i => { job := i, leader := 0, members := [], lanes := [] } })
      (fun t => t.lace.fwds.length == 8) = true ∧
    laneActive (lane 0 act) 1 = false ∧ runs (.join 300 0 5 1) (lane 0 act) = true := by decide +kernel

/-! ## Cores and memories -/

/-- A running frame with stacks in service; cores' SRAM as given. -/
def coreS (sram : Mem) : State :=
  { lastIn .running 1 id with core := { on.core with sram := sram }
                              mem := { on.mem with stk := Vector.replicate 6 { st := .inService } } }

/-- A state whose image has one slot, of a kind and unit, with one descriptor. -/
def withDesc (kind unit : Nat) (d : List Word) (s : State) : State := s.onLast fun l =>
  { l with active := [0x4C415354, 0x1004, 61, 0, 1, 0, 0, 0, 0, 1, 16, 1, 20, w32 (20 + d.length), 0, 7] ++
      [0, mkW [(28, kind), (12, 15)], w32 unit, 0] ++ d ++ List.replicate 32 0xFF00FF00 ++ [0, 0] }

/-- One tile step of E4M3 operands from INIT, ANCHOR −18, no write-back; 1.0 in the first element of each. -/
def matD : List Word := [0x1007FFFF, mkW [(28, 2), (24, 2), (17, 1), (0, 0x3EE)], 0, 4096, 8192, 0x10000, 0]
def matS : State := withDesc 0 0 matD (coreS [(0, 0x38), (4096, 0x38)])

theorem wit_MatrixDescriptors :
    (coreRuns matS = true ∧ matrixOk matD = true ∧ logicalKey matS 0 0 = some 0 ∧ due matS (coreHere 0 0) 0 matD = some 0) ∧
    (ctrlKind (wd matD 1) = 0 ∧ fld (wd matD 5) 16 16 = 1 ∧ ctrlInit (wd matD 1) = true ∧ (coreRegs matS 0).parity = []) ∧
    coreRuns s2 = false ∧ matrixOk (matD.set 0 0) = false ∧ due matS (coreHere 1 0) 0 matD = none := by
  decide +kernel

/-- A tile in FP32 at the last addresses. -/
theorem wit_matrix_writeback :
    (let d := [0x1007FFFF, mkW [(28, 2), (24, 2), (17, 1), (14, 1), (0, 0x3EE)], 0, 4096, 0x5F000, 0x10000, 0]
     let s := withDesc 0 0 d (coreS [(0, 0x38), (4096, 0x38)])
     matrixOk d = true ∧ due s (coreHere 0 0) 0 d = some 0 ∧ ctrlKind (wd d 1) = 1 ∧ outBytes (ctrlOut (wd d 1)) = 4 ∧
       0x5F000 + 1024 * 4 ≤ 0x60000) := by decide +kernel

/-- 1.0 × 1.0 in units of 2^−18 (R49). -/
theorem test_exact_product :
    (macStep (wd matD 1) { acc := {} }
      ((rowElems matS 0 matD 0 2 0 1 0 0).zip (rowElems matS 0 matD 1 2 4096 1 0 0))).acc = { sum := 2 ^ 18 } := by decide +kernel

theorem wit_ExactSums :
    ([((.fin false 8 (-3), 0), (.fin false 8 (-3), 0)), ((.fin true 9 (-3), 0), (.fin false 8 (-3), 0))] : List (Operand × Operand)).Perm
      [((.fin true 9 (-3), 0), (.fin false 8 (-3), 0)), ((.fin false 8 (-3), 0), (.fin false 8 (-3), 0))] ∧
    operandEvent (.fin true 9 (-3)) (.fin false 8 (-3)) {} = none ∧ 0 ≤ elemL 2 + elemL 2 + 0 + 0 - (-18) ∧
    (inUnits (elemL 2) (.fin true 9 (-3)) * inUnits (elemL 2) (.fin false 8 (-3)) * 2 ^ (elemL 2 + elemL 2 + 0 + 0 - (-18)).toNat).natAbs < 2 ^ 95 :=
  ⟨List.Perm.swap _ _ _, by decide +kernel⟩

/-- A group from addresses 0 and 256 to 512; the first lanes hold 1.0 and 2.0. -/
def vecD (op : Nat) : List Word := [0x2007FFFF, w32 op, 0, 256, 512, 1, 0]
def vecS (op : Nat) : State := withDesc 0 0 (vecD op) (coreS [(2, 0x80), (3, 0x3F), (259, 0x40)])

theorem wit_VectorDescriptors :
    (∀ op ∈ [1, 2, 3, 4, 5, 6, 7, 8, 9, 10, 11, 12], coreRuns (vecS op) = true ∧ logicalKey (vecS op) 0 0 = some 0 ∧
      vectorOk op (vecD op) = true ∧ due (vecS op) (coreHere 0 0) 0 (vecD op) = some 0) ∧
    MemoriesCanonical (vecS 1) ∧
    (sramBad (vecS 1) 0 0 256 = [] ∧ sramBad (vecS 1) 0 256 256 = [] ∧ sramBad (vecS 1) 0 512 256 = [] ∧ 512 + 256 ≤ 0x60000) ∧
    (fld (wd (vecD 1) 1) 20 4 = 0 ∧ fld (wd (vecD 1) 5) 0 16 = 1) ∧
    (runs (.add 0 0 (vecD 1)) (vecS 1) && runs (.mul 0 0 (vecD 2)) (vecS 2) && runs (.fma 0 0 (vecD 3)) (vecS 3) &&
      runs (.min 0 0 (vecD 4)) (vecS 4) && runs (.max 0 0 (vecD 5)) (vecS 5) && runs (.cvt 0 0 (vecD 6)) (vecS 6) &&
      runs (.encode 0 0 (vecD 7)) (vecS 7) && runs (.rcp 0 0 (vecD 8)) (vecS 8) && runs (.rsqrt 0 0 (vecD 9)) (vecS 9) &&
      runs (.exp2 0 0 (vecD 10)) (vecS 10) && runs (.log2 0 0 (vecD 11)) (vecS 11) &&
      runs (.reduceAdd 0 0 (vecD 12)) (vecS 12)) = true ∧
    vectorOk 1 (vecD 2) = false ∧ due (vecS 1) (coreHere 0 0) 0 (vecD 2) = none :=
  ⟨by decide +kernel, ⟨by decide, by decide⟩, by decide +kernel⟩

/-- 1.0 + 2.0, 1.0 × 2.0, max(1.0, 2.0) in FP32 (R64). -/
theorem test_lanes :
    (laneOp 1 0 0x3F800000 0x40000000 0).1 = 0x40400000 ∧ (laneOp 2 0 0x3F800000 0x40000000 0).1 = 0x40000000 ∧
    (laneOp 5 0 0x3F800000 0x40000000 0).1 = 0x40000000 := by decide +kernel

/-! ## Transfers and collectives -/

/-- 64 bytes between stack 5 and core 0 of cluster 0; the address, DIR, INDIRECT. -/
def hbmD (addr dir ind : Nat) : List Word := [0x3006FFFF, w32 addr, mkW [(16, 5), (19, dir)], 64, 0, mkW [(23, ind)]]
def hbmS : State := { coreS [(1, 9)] with mem := { (coreS []).mem with hbm := [(hbmBase 5 + 65, 7)] } }
def hbmC (d : List Word) : State := withDesc 1 5 d hbmS

theorem wit_HbmTransfers :
    MemoriesCanonical (hbmC (hbmD 64 0 0)) ∧ frameRuns s2 = false ∧ envOk 3 (matD) = false ∧ due hbmS (hbmHere 5) 0 (hbmD 64 0 0) = none ∧
    (frameRuns hbmS = true ∧ (∀ p ∈ [(0, 0), (1, 0), (0, 1)], envOk 3 (hbmD 64 p.1 p.2) = true ∧
      badHbm (runReach (hbmC (hbmD 64 p.1 p.2))) 5 (hbmD 64 p.1 p.2) = none ∧
      due (hbmC (hbmD 64 p.1 p.2)) (hbmHere 5) 0 (hbmD 64 p.1 p.2) = some 0) ∧ hbmIn 64 64 = true ∧ lastRange hbmS 5 64 64 = true ∧
      logicalKey hbmS 0 0 = some 0 ∧ stackBad hbmS 5 64 64 = [] ∧ sramBadUnits hbmS 0 0 64 = []) ∧
    ok (.hbmDescriptor (hbmD 64 0 0)) (hbmC (hbmD 64 0 0)) (fun t => t.core.sram == [(1, 7)] && t.last.chains == [(0, 0x10000)]) = true ∧
    ok (.hbmDescriptor (hbmD 64 1 0)) (hbmC (hbmD 64 1 0)) (fun t => t.mem.hbm == [(hbmBase 5 + 65, 9)]) = true ∧
    (let d := fun dir : Nat => [0x3006FFFF, 0x2D05C000, mkW [(0, 11), (16, 5), (19, dir)], 64, 0, 0]
     let s := fun dir : Nat => (hbmC (d dir)).onMem fun m => { m with systemStack := 5 }
     (∀ dir ∈ [0, 1], envOk 3 (d dir) = true ∧ badHbm (runReach (s dir)) 5 (d dir) = none ∧ due (s dir) (hbmHere 5) 0 (d dir) = some 0 ∧
       lastRange (s dir) 5 (addr48 0x2D05C000 11) 64 = false) ∧
       ok (.hbmDescriptor (d 0)) (s 0) (fun t => t.core.sram == [] && t.log.mainQueue.length == 1) = true ∧
       ok (.hbmDescriptor (d 1)) (s 1) (fun t => t.mem.hbm == (s 1).mem.hbm) = true) ∧
    runs (.hbmDescriptor (hbmD 64 0 1)) (hbmC (hbmD 64 0 1)) = true := ⟨⟨by decide, by decide⟩, by decide +kernel⟩

/-- 1,088 bytes from stack 0 to package 1 by lane 0; the same as a spill. -/
def laceD : List Word := [0x4007FFFF, 0, 0, 1088, 0, mkW [(16, 1)], 0]
def spillD : List Word := [0x6006FFFF, 0, 0x80000, 1088, 0, mkW [(16, 1)]]
def laceS : State := (coreS []).onLace fun l => { l with idValid := true, lanes := vmod l.lanes 0 fun _ => act }
def laceC : State := withDesc 2 ((firstEyelet laceS 1).getD 16) laceD laceS
def spillC : State := withDesc 4 0 spillD laceS

theorem wit_FabricTransfers :
    (let eye := (firstEyelet laceC (fld (wd laceD 5) 16 11)).getD 16
     frameRuns laceC = true ∧ envOk 4 laceD = true ∧ badLace (runReach laceC) laceC eye laceD = none ∧
     due laceC (laceHere eye) 0 laceD = some 0 ∧ due laceC (laceHere (eye + 1)) 0 laceD = none) ∧
    ok (.laceDescriptor laceD) laceC (fun t => t.lace.txns.map (fun x => (x.tag, x.len, x.write)) == [(0, 512, true), (1, 512, true), (2, 64, true)] &&
      t.last.chains == [(0, 0x10000)]) = true ∧
    (envOk 6 spillD = true ∧ badSpill (runReach spillC) spillD = none ∧ due spillC spillHere 0 spillD = some 0 ∧
      stackBad spillC 0 0 1088 = []) ∧
    ok (.spillDescriptor spillD) spillC (fun t => t.lace.txns.map (fun x => x.len) == [512, 512, 64] && t.mem.tagsPeak == 3) = true ∧
    (let s := spillC.onMem fun m => { m with hbmPoison := [hbmBase 0 / 32] }
     stackBad s 0 0 1088 ≠ [] ∧ ok (.spillDescriptor spillD) s (fun t => t.mem.event == 0x10) = true) ∧
    frameRuns s2 = false ∧ laceC.lace.txns = [] ∧ laceC.lace.waiting = [] := by decide +kernel

/-- A collective of RAW data over packages 0 and 1, from stack 0 to stack 5. -/
def collD (op : Nat) : List Word :=
  [0x5008FFFF, mkW [(28, op), (24, if op < 2 then 1 else 3), (14, 5)], mkW [(20, 2), (0, 1)], 128, 0, 0, 0, 0]
def collC (op : Nat) : State := withDesc 3 0 (collD op) laceS
def collY (op : Nat) : Coll := { collOf laceS (collD op) with index := 3 }
def partX (op job f : Nat) : Contribution :=
  { rank := 1, dest := 0, gather := false, job := job, f := f, index := 3, op := op, etype := if op < 2 then 1 else 3, red := 0
    size := 2, bytes := 128, data := List.replicate 128 7, poison := [] }
def collS (l : List Coll) : State := laceS.onLace fun b => { b with colls := l }

theorem wit_Collectives :
    MemoriesCanonical laceS ∧ (frameRuns laceS = true ∧ opticalOn laceS = true ∧ laceS.last.jobId = 0 ∧ laceS.last.f = 0) ∧
    (∀ op ∈ [0, 1, 2, 3], envOk 5 (collD op) = true ∧ badColl (runReach (collC op)) (collC op) (collD op) = none ∧
      fld (wd (collD op) 1) 28 4 = op ∧ due (collC op) collHere 0 (collD op) = some 0 ∧
      (collC op).lace.colls = [] ∧ (collC op).lace.early = []) ∧
    (ok (.allReduce (collD 0)) (collC 0) (fun t => t.lace.txns.length == 1 && t.lace.colls.length == 1 && t.last.collIndex == 1) &&
      runs (.reduceScatter (collD 1)) (collC 1) && runs (.allGather (collD 2)) (collC 2) && runs (.allToAll (collD 3)) (collC 3)) = true ∧
    envOk 5 laceD = false ∧ due laceS collHere 0 (collD 0) = none ∧
    ok (.collectiveContributionReceive (partX 2 0 0)) laceS (fun t => t.lace.early.length == 1) = true ∧
    -- of another job, of another frame, of another operation
    ((partX 2 1 0).job ≠ laceS.last.jobId % 256 ∧ (partX 2 0 1).f ≠ laceS.last.f ∧ (collS [collY 0]).lace.colls = [collY 0] ∧
      partFits (collS [collY 0]) (collY 0) (partX 2 0 0) = false) ∧
    -- for the last member of three, and for this one
    (let y := { collY 2 with size := 3 }
     let x := { partX 2 0 0 with size := 3 }
     partFits laceS y x = true ∧ y.rank = 0 ∧ y.parts.length + 1 < y.size ∧ (∀ p ∈ y.parts, p.1 ≠ 1) ∧
     ok (.collectiveContributionReceive { x with dest := 2 }) (collS [y]) (fun t => t.lace.txns.length == 1 && t.lace.colls == [y]) = true ∧
     ok (.collectiveContributionReceive x) (collS [y]) (fun t => t.lace.colls.map (fun c => c.parts.length) == [2]) = true ∧
     ok (.collectiveContributionReceive { x with rank := 0 }) (collS [y]) (fun t => t.lace.colls == [y]) = true ∧
     ok (.laceTimeout (.contribution 3 1 false)) (collS [y]) (fun t => t.lace.colls.map (fun c => c.parts.length) == [2]) = true ∧
     ok (.laceTimeout (.contribution 3 2 true)) (collS [y]) (fun t => t.lace.colls.map (fun c => c.gathered.length) == [1]) = true) ∧
    -- the last contribution of an ALL_GATHER; of the first phase of an ALL_REDUCE; of its second phase
    (partFits laceS (collY 2) (partX 2 0 0) = true ∧ (collY 2).parts.length + 1 = 2 ∧ (collY 2).dst = .hbm 5 0 ∧
      ok (.collectiveContributionReceive (partX 2 0 0)) (collS [collY 2])
        (fun t => t.lace.colls == [] && t.mem.hbm.read (hbmBase 5 + 127) 2 == [0, 7]) = true) ∧
    (partFits laceS (collY 0) (partX 0 0 0) = true ∧ (collY 0).gathered = [] ∧
      ok (.collectiveContributionReceive (partX 0 0 0)) (collS [collY 0])
        (fun t => t.lace.txns.length == 1 && t.lace.colls.map (fun c => c.gathered.length) == [1]) = true) ∧
    (let y := { collY 0 with parts := (collY 0).parts ++ [(1, none)], gathered := [(0, some (List.replicate 64 5, []))] }
     collDone { y with gathered := y.gathered ++ [(1, none)] } = true ∧
     ok (.collectiveContributionReceive { partX 0 0 0 with gather := true, data := List.replicate 64 9 }) (collS [y])
       (fun t => t.lace.colls == [] && t.mem.hbm.read (hbmBase 5 + 63) 2 == [5, 9]) = true) :=
  ⟨⟨by decide, by decide⟩, by decide +kernel⟩

/-! ## Errors, scrub and the memory opcodes -/

theorem wit_MemoryErrors :
    (stackServes hbmS 5 = true ∧ 32 * 2 < stackBytes ∧ hbmS.mem.scrubEn = true ∧ computeOn on = true) ∧
    ok (.hbmRereadComplete 5 2 false true) hbmS (fun t => t.mem.event == 4) = true ∧
    ok (.hbmRereadComplete 5 2 false false) hbmS (fun t => t.mem.rereads == [(hbmBase 5 / 32 + 2, 1)]) = true ∧
    ok (.hbmRereadComplete 5 2 true false) (hbmS.onMem fun m => { m with rereads := [(hbmBase 5 / 32 + 2, 1)] })
      (fun t => t.mem.event == 8 && t.mem.stk[5].ue == 1) = true ∧
    hbmS.mem.rereads.contains (hbmBase 5 / 32 + 2, 1) = false ∧
    ok (.patrolScrub 5 2 .corrected) hbmS (fun t => t.mem.stk[5].ce == 1) = true ∧
    ok (.patrolScrub 5 2 .uncorrectable) hbmS (fun t => t.mem.hbmPoison.length == 1) = true ∧
    runs (.patrolScrub 5 2 .corrected) (hbmS.onMem fun m => { m with scrubEn := false }) = true ∧
    ok (.sramScrub 63 64 0x5FFF8 .corrected) on (fun t => t.mem.sramCe[63] == 1) = true ∧
    ok (.sramScrub 63 64 0x5FFF8 .uncorrectable) on (fun t => t.mem.sramUe[63] == 1 && t.core.sramPoison.length == 1) = true ∧
    ok (.coreParity 63 64 [1023]) on (fun t => (accOf t (coreKey 63 64) 1023).nan && (coreRegs t (coreKey 63 64)).faultPending) = true := by
  decide +kernel

theorem wit_StacksAndWindows :
    (let s := on.onMem fun m => { m with stk := vmod m.stk 5 fun k => { k with st := .training } }
     railUp s 2 = true ∧ s.mem.systemStack ≠ 5 ∧
     ok (.hbmTrainDone 5 true 85) s (fun t => t.mem.stk[5].st == .inService && t.mem.stk[5].refresh2x) = true ∧
     ok (.hbmTrainDone 5 false 84) s (fun t => t.mem.stk[5].st == .failed && t.mem.stk[5].recRetired) = true) ∧
    on.mem.stk[5].st ≠ .training ∧ hbmS.mem.stk[5].st = .inService ∧
    ok (.doubledRefresh 5 84) hbmS (fun t => !t.mem.stk[5].refresh2x && t.mem.stk[5].temp == 84) = true ∧
    ends 0x401 .memScrubSet (req [0]) on 0 (fun ws t => ws == [1] && !t.mem.scrubEn && t.mem.passHours == 1) = true ∧
    ans 0x402 .memPoolExport (req [0x100, 1]) s2 7 = true ∧
    ans 0x402 .memPoolExport (req [0x100, 1]) hbmS 2 = true ∧
    (let s := hbmS.onLast fun l => { l with st := .empty, active := [] }
     winDenied on 0 (askedWin 1) = true ∧ ans 0x402 .memPoolExport (req [0x100, 1]) on 6 = true ∧
     winDenied s 15 (askedWin 0x05002FFF) = false ∧
     ends 0x402 .memPoolExport (req [0x10F, 0x05002FFF]) s 0 (fun _ t => t.mem.wins[15].valid && t.mem.wins[15].size == 713) = true) ∧
    ends 0x402 .memPoolExport (req [0x00F, 7]) on 0 (fun ws _ => ws == [15, 0]) = true := by decide +kernel

theorem test_add_stores : ok (.add 0 0 (vecD 1)) (vecS 1) (fun t => t.core.sram.read 512 4 == [0, 0, 0x40, 0x40]) = true := by decide +kernel
/-! ## Resets by command, repair, firmware -/

def dom (d mask force : Nat) : List Word := [mkW [(31, force), (8, mask), (0, d)]]

theorem wit_ResetDomains :
    ans 0x104 .resetDomain (req (dom 3 0 0)) s2 7 = true ∧ ans 0x104 .resetDomain (req (dom 0 15 0)) s2 7 = true ∧
    ans 0x104 .resetDomain (req (dom 1 15 0)) (lastIn .running 1 id) 6 = true ∧
    ans 0x104 .resetDomain (req (dom 6 0 0)) (on.onSec fun c => { c with life := .production }) 6 = true ∧
    ((∀ h : Fin 6, on.mem.stk[h].retireWaiting = false) ∧ (∀ n : Fin 64, on.core.clusters[n].change = none) ∧
      (∀ p ∈ allPorts, (on.win p).active = false)) ∧
    (let s := lastIn .running 1 id
     ends 0x104 .resetDomain (req (dom 1 8 1)) { s with core := { s.core with sram := [(sramAt 3119 5, 1), (sramAt 3120 5, 1)] } } 0
       (fun _ t => t.last == {} && t.core.sram == [(sramAt 3119 5, 1)]) = true) ∧
    ends 0x104 .resetDomain (req (dom 3 0 0)) (lane 0 act) 0 (fun _ t => t.lace.peerResetOut == 1 && (laneOf t 0).st == .training) = true ∧
    ends 0x104 .resetDomain (req (dom 4 0 0)) on 0 (fun _ t => !t.sec.mpRun) = true ∧
    ends 0x104 .resetDomain (req (dom 5 0 0)) on 0 (fun _ t => t.isl.procReset && !t.isl.fwRun) = true ∧
    ends 0x104 .resetDomain (req (dom 6 0 0)) on 0 (fun _ t => !t.sec.secRun) = true := by decide +kernel

theorem wit_StepKeepsRepairMaps : RepairOk on ∧ runs .trayPowerUp on = true := by
  refine ⟨fun n => ?_, by decide⟩
  unfold clusterOf vget
  simp only [on, State.reset, Vector.getElem?_replicate]
  split <;> exact ⟨by decide, by intro p hp; cases hp; decide⟩

/-- Cluster 63 in a given state. -/
def clu (c : ClusterRec) (s : State) : State := s.onCore fun b => { b with clusters := vmod b.clusters 63 fun _ => c }
def swap (a : Nat) : Req := req [mkW [(8, 63), (0, 63)], w32 a]

theorem wit_CoreSwaps :
    ans 0x410 .coreSwap (swap 0) s2 7 = true ∧
    ans 0x410 .coreSwap (swap 3) (lastIn .running 1 fun l => { l with inSwitch := true }) 2 = true ∧
    ends 0x410 .coreSwap (swap 3) (clu { change := some ⟨63, 0, 0, false⟩ } on) 0 (fun _ t => (clusterOf t 63).change == none) = true ∧
    ans 0x410 .coreSwap (swap 0) (clu { change := some ⟨1, 0, 0, false⟩ } on) 2 = true ∧
    ans 0x410 .coreSwap (swap 1) (clu { spare := none } on) 6 = true ∧
    ends 0x410 .coreSwap (swap 2) (lastIn .running 1 id) 1 (fun _ t => (clusterOf t 63).change == some ⟨63, 2, 0, false⟩) = true ∧
    ((clusterOf on 63).spare = some 64 ∧ servedBy (clusterOf on 63) 63 = some 63 ∧ lastBusy on = false ∧
      corePoison on (coreKey 63 63) = [] ∧ (∀ n : Fin 64, on.core.clusters[n].change = none)) ∧
    (let s := { on with core := { on.core with sram := [(sramAt (coreKey 63 63) 7, 5)] } }
     ends 0x410 .coreSwap (swap 0) s 0 (fun _ t => servedBy (clusterOf t 63) 63 == some 64 &&
       t.core.sram.get (sramAt (coreKey 63 64) 7) == 5 && (coreRegs t (coreKey 63 63)).testRunning) = true ∧
     ends 0x410 .coreSwap (swap 1) s 0 (fun _ t => (clusterOf t 63).retired == [63]) = true) ∧
    ends 0x410 .coreSwap (swap 2) on 0 (fun _ t => servedBy (clusterOf t 63) 63 == none && (clusterOf t 63).retired == [63]) = true := by
  decide +kernel

def testReq (c : Nat) : Req := req [mkW [(8, 63), (0, c)], 1]
def testing (c : Nat) (f : Bool) : State := on.onCore fun b => { b with regs := [(coreKey 63 c, { testRunning := f })] }

theorem wit_SelfTestsAndRetirement :
    ans 0x900 .coreSelftest (testReq 64) s2 7 = true ∧ ans 0x900 .coreSelftest (testReq 64) (testing 64 true) 2 = true ∧
    (serves (clusterOf on 63) 64 = none ∧ on.core.recordLost = false ∧ readyB 0x900 (testReq 64) on = true) ∧
    (serves (clusterOf on 63) 0 = some 0 ∧
      ends 0x900 .coreSelftest (testReq 0) on 1 (fun _ t => (clusterOf t 63).change == some ⟨0, 0, 1, true⟩) = true) ∧
    ends 0x900 .coreSelftest (testReq 0) (clu { spare := none } on) 1 (fun _ t => (clusterOf t 63).deferred == [(0, 1)]) = true ∧
    (coreRegs on (coreKey 63 64)).testRunning = false ∧ runs (.selftestComplete 63 64 0) on = true ∧
    ok (.selftestComplete 63 64 0) (clu { spare := none } (testing 64 true)) (fun t => (clusterOf t 63).spare == some 64) = true ∧
    ok (.selftestComplete 63 64 1) (clu { spare := none } (testing 64 true)) (fun t => (clusterOf t 63).retired == [64]) = true ∧
    ok (.selftestComplete 63 0 1) (testing 0 true) (fun t => (clusterOf t 63).retired == [] && (coreRegs t (coreKey 63 0)).testCode == 1) = true ∧
    ans 0x411 .hbmRetire (req [7]) s2 7 = true ∧
    ans 0x411 .hbmRetire (req [5]) (hbmS.onMem fun m => { m with stk := vmod m.stk 5 fun k => { k with st := .retired } }) 0 = true ∧
    (let s := on.onMem fun m => { m with stk := vmod (Vector.replicate 6 { st := .retired }) 5 fun k => { k with st := .inService } }
     otherLeft s 5 = false ∧ ans 0x411 .hbmRetire (req [5]) s 6 = true) ∧
    (otherLeft hbmS 0 = true ∧ ans 0x411 .hbmRetire (req [0]) hbmS 2 = true) ∧
    ends 0x411 .hbmRetire (req [5]) hbmS 1 (fun _ t => (stackOf t 5).retireWaiting) = true ∧
    (let s := hbmS.onLast fun l => { l with st := .loaded }
     ends 0x411 .hbmRetire (req [5]) s 0 (fun _ t => (stackOf t 5).st == .retired && t.mem.hbm == []) = true) := by decide +kernel

/-- A firmware image of 16 words and 26 of signature for release 9 of B0, under key slot 0. -/
def fwImg : List Word := [0x54465749, 0x80B00309, 6] ++ List.replicate 13 0 ++ [1, 0] ++ List.replicate 24 0
def fwS (t : Nat) (f : Fw → Fw) : State := on.onSec (SecBlk.onFw t f)
def fwArg (t n : Nat) : Req := req [mkW [(30, t), (0, n)]]
def bankB : Bank := { valid := true, committed := true, release := 9, minRel := 3, image := fwImg }

theorem wit_FirmwareUpdates :
    ans 0x700 .fwLoad (fwArg 0 20) (fwS 0 fun f => { f with trial := true }) 2 = true ∧
    ends 0x700 .fwLoad (fwArg 2 5) (fwS 2 fun f => { f with b := bankB }) 0
      (fun ws t => ws == [0x80000010] && !(t.sec.fw 2).b.valid && (t.win .host).left == 16) = true ∧
    (fwReject on 2 = some (1, 9) ∧ ends 0x701 .fwCommit (fwArg 2 0) on 9 (fun ws _ => ws == [0x80000000, 1]) = true) ∧
    ans 0x702 .fwActivate (fwArg 1 0) on 2 = true ∧
    ans 0x702 .fwActivate (fwArg 2 0) ((fwS 2 fun f => { f with b := bankB }).onIsl fun i => { i with forced := true }) 6 = true ∧
    ends 0x702 .fwActivate (fwArg 1 0) (fwS 1 fun f => { f with b := bankB }) 0 (fun _ t => (t.sec.fw 1).armed) = true ∧
    runs (.fwActivationStart 0) on = true ∧
    runs (.fwActivationStart 0) ((fwS 0 fun f => { f with b := bankB, armed := true }).onLast fun l => { l with inSwitch := true }) = true ∧
    (bootOk on 0 true = false ∧ ok (.fwActivationStart 0) (fwS 0 fun f => { f with armed := true }) (fun t => !(t.sec.fw 0).armed) = true) ∧
    (∀ tg : Fin 3, let s := fwS tg.val fun f => { f with b := bankB, armed := true }
      bootOk s tg.val true = true ∧ ok (.fwActivationStart tg) s (fun t => (t.sec.fw tg.val).cur && (t.sec.fw tg.val).trial) = true) ∧
    ok (.fwActivationStart 2) (fwS 2 fun f => { f with b := bankB, armed := true }) (fun t => t.isl.updateArm && t.isl.timeoutMs == 500) = true := by
  decide +kernel

/-- An image that a commit accepts if its signature verifies, which is a free value (notes/assumptions/87). -/
theorem wit_fw_commit (h : Config.sigOk 0 (hashWords (fwSigned fwImg)) (((fwSig fwImg).drop 2).take 24) = true) :
    fwReject (fwS 2 fun f => { f with complete := true, words := fwImg }) 2 = none := by
  have h1 : fwVerifies (fwS 2 fun f => { f with complete := true, words := fwImg }) 2 fwImg = true := by
    unfold fwVerifies sigBlockOk
    simp only [show fld (wd (fwSig fwImg) 1) 0 8 = 0 by decide, h]
    decide +kernel
  have h2 : ((fwS 2 fun f => { f with complete := true, words := fwImg }).sec.fw 2).words = fwImg := by decide +kernel
  unfold fwReject
  simp only [h2, h1]
  decide +kernel

theorem wit_TrialsAndMpStart :
    ok (.trialRunTimeout 0) ((fwS 0 fun f => { f with b := bankB, cur := true, trial := true }).onSec fun c => { c with mpRun := false })
      (fun t => !(t.sec.fw 0).cur && !(t.sec.fw 0).b.valid) = true ∧
    ok (.trialRunTimeout 1) ((fwS 1 fun f => { f with b := bankB, cur := true, trial := true }).onSec fun c => { c with secRun := false })
      (fun t => !(t.sec.fw 1).cur) = true ∧
    (on.sec.fw 2).trial = false ∧
    ok (.trialEnd 2) ((fwS 2 fun f => { f with b := bankB, cur := true, trial := true }).onIsl fun i => { i with updateArm := true, timeoutMs := 500 })
      (fun t => (t.sec.fw 2).b.confirmed && t.sec.floorIsl == 3 && t.isl.timeoutMs == 200 && !t.isl.updateArm) = true ∧
    on.sec.mpRun = true ∧ mgmtOn on = true ∧
    (let s := (fwS 0 fun f => { f with b := bankB, cur := true }).onSec fun c => { c with mpRun := false }
     bootOk s 0 true = true ∧ s.sec.bootFailed = false ∧ s.pwr.pdseq = none ∧ ok .mpStart s (fun t => t.sec.mpRun) = true ∧
     ok .mpStart (s.onPwr fun p => { p with pdseq := some 3 }) (fun t => t.pwr.event == 0x100 && t.pwr.pdseq == none) = true) := by
  decide +kernel

/-! ## Security -/

theorem factory_boots (t : Nat) (ht : t < 3) : bootOk { on with sec := { on.sec with secRun := false, mpRun := false, ownerKeys := 0 } } t false = true := by
  have h : Config.factorySlot t % 4 < 4 := Nat.mod_lt _ (by decide)
  have : t = 0 ∨ t = 1 ∨ t = 2 := by omega
  rcases this with rfl | rfl | rfl <;>
    simp [bootOk, slotEnabled, bankSlot, bankOf, SecBlk.fw, floorOf, on, State.reset, h]

theorem wit_SecurityBoots :
    on.sec.secRun = true ∧ mgmtOn s3 = false ∧ mgmtOn on = true ∧
    (let s := on.onSec fun c => { c with secRun := false, mpRun := false, revoke := 0xFF, sec := { c.sec with a := bankB } }
     bootOk { s with sec := { s.sec with ownerKeys := 0 } } 1 false = false ∧ bootOk { s with sec := { s.sec with ownerKeys := 0 } } 1 true = false ∧
     ok .securityBoot s (fun t => t.sec.secFailed && t.sec.bootFailed) = true) ∧
    (bankOf on.sec.sec on.sec.sec.cur).image = [] ∧ on.sec.bindLock = false ∧ runs .nonceExpiry on = true := by decide +kernel

def lifeReq (op k : Nat) : Req := req (mkW [(28, op), (0, k)] :: List.replicate 25 0)
def lifeS (l : Life) (d : Nat) : State := on.onSec fun c => { c with life := l, debug := d }
def dbg (ws : List Word) : Req := { port := .debug, tag := 5, ver := 3, words := ws }

theorem wit_SecurityOpcodes :
    ans 0x801 .secLifecycleSet (dbg [0]) on 6 = true ∧ ans 0x801 .secLifecycleSet (req [0]) on 0 = true ∧
    ends 0x801 .secLifecycleSet (lifeReq 1 2) on 0 (fun _ t => t.sec.pendLife == some .production && t.sec.debug == 0 && t.sec.life == .manufacture) = true ∧
    ans 0x801 .secLifecycleSet (lifeReq 1 0) on 6 = true ∧ freeTransition (fusedLife on) (lifeOf 0) = false ∧
    tokenTransition (fusedLife on) (lifeOf 0) = false ∧
    (ans 0x801 .secLifecycleSet (lifeReq 2 0) on 6 = true ∧ on.sec.nonce = none) ∧
    (tokenTransition (fusedLife (lifeS .develop 0)) (lifeOf 3) = true ∧ ans 0x801 .secLifecycleSet (lifeReq 1 3) (lifeS .develop 0) 6 = true) ∧
    ans 0x802 .secDebugUnlock (dbg (List.replicate 26 0)) on 6 = true ∧
    ans 0x802 .secDebugUnlock (lifeReq 1 0) (lifeS .production 0) 6 = true ∧
    ans 0x802 .secDebugUnlock (lifeReq 3 0) on 0 = true ∧
    ends 0x802 .secDebugUnlock (lifeReq 3 0) (lifeS .develop 1) 0 (fun _ t => t.sec.debug == 0) = true ∧
    ans 0x802 .secDebugUnlock (lifeReq 1 0) (lifeS .develop 0) 6 = true ∧
    ans 0x800 .secAttest (req [3]) on 2 = true ∧
    ans 0x800 .secAttest (req [3]) (on.onSec fun c => { c with reports := [(1, List.replicate 448 7)] }) 0 = true ∧
    (readyB 0x800 (req (List.replicate 9 0)) on = true ∧ attestPart 0 = 0 ∧ attestPart 3 = 3) := by decide +kernel

/-- A token under key slot 0 opens the debug port if it verifies, which is a free value (notes/assumptions/87). -/
theorem wit_token (h : Config.sigOk 0 (sha384 (tokenBytes ((lifeS .develop 0).onSec fun c => { c with nonce := some 0 }) 0 0x10000000#32))
      (List.replicate 24 0) = true) :
    tokenOk ((lifeS .develop 0).onSec fun c => { c with nonce := some 0 }) (unlockSlots (lifeS .develop 0))
      (keptWords 0x802 (lifeReq 1 0).words) = true ∧ readyB 0x802 (lifeReq 1 0) (lifeS .develop 0) = true := by
  refine ⟨?_, by decide +kernel⟩
  have e : keptWords 0x802 (lifeReq 1 0).words = 0x10000000#32 :: List.replicate 25 0 := by decide +kernel
  rw [e]
  unfold tokenOk
  simp only [show ((lifeS .develop 0).onSec fun c => { c with nonce := some 0 }).sec.nonce = some 0 from rfl]
  rw [show wd (0x10000000#32 :: List.replicate 25 0) 0 = 0x10000000#32 from rfl,
    show fld (wd (0x10000000#32 :: List.replicate 25 0) 1) 0 8 = 0 by decide,
    show ((0x10000000#32 :: List.replicate 25 0).drop 2).take 24 = List.replicate 24 0 from rfl, h]
  decide +kernel

/-! ## The cooling island -/

/-- A sensor channel changed; one that gives a reading of its own. -/
def sen (c : Nat) (f : Sensor → Sensor) (s : State) : State := s.onIsl fun i => { i with sens := vmod i.sens c f }
def live0 (x : Sensor) : Sensor := { x with primed := true }

/-- The calibration table of the defaults as CAL_TABLE_LOAD carries it. -/
def calBody : List Word :=
  0x43410052#32 :: (List.range 82).flatMap fun c =>
    let x := Sensor.default c
    [mkW [(0, 0x8000)], mkW [(28, x.filtK), (0, x.param)]]
def calTable : List Word := calBody ++ [crc32c (wordsBytes calBody)]
def loaded (l : Option (List Word)) : State := on.onIsl fun i => { i with calLoaded := l }

theorem wit_calTable : calTableOk calTable = true := by
  have h : calBody.length = 165 := by decide +kernel
  have h1 : calTable.take 165 = calBody := by rw [calTable, ← h]; exact List.take_left
  have h2 : wd calTable 165 = crc32c (wordsBytes calBody) := by
    unfold wd calTable
    rw [List.getD_eq_getElem?_getD, List.getElem?_append_right (by omega), h]
    rfl
  unfold calTableOk
  rw [h1, h2]
  simp only [beq_self_eq_true, Bool.and_true]
  decide +kernel

theorem wit_SensorsAndCalibration :
    runs (.sensorFault 80) on = true ∧ (channelDieOn on 63 = true ∧ channelDieOn s2 63 = false ∧ partner 63 = some 62 ∧
      (sensorOf on 62).cal = false ∧ calRequest on 63 = none) ∧
    runs (.sensorFault 63) (sen 63 (fun x => { x with fault := true }) on) = true ∧
    ok (.sensorFault 63) on (fun t => (sensorOf t 63).fault && !(sensorOf t 63).dieOff) = true ∧
    ok (.sensorFault 63) (sen 63 (fun x => { x with cal := true }) on) (fun t => (sensorOf t 63).fault && !(sensorOf t 63).cal) = true ∧
    ok (.sensorFault 63) s2 (fun t => (sensorOf t 63).dieOff) = true ∧
    (sensorOf on 63).fault = false ∧ runs (.sensorRecovered 63) on = true ∧
    ok (.sensorRecovered 63) (sen 63 (fun x => { x with fault := true }) on)
      (fun t => !(sensorOf t 63).fault && (slotOf t 15).plausHold && !(slotOf t 14).plausHold) = true ∧
    ok (.sensorRecovered 63) (sen 63 (fun x => { x with fault := true, dieOff := true }) on) (fun t => !(sensorOf t 63).dieOff) = true ∧
    (sensorValid (sensorOf (sen 0 live0 (sen 1 live0 on)) 0) = true ∧ runs (.sensorDisagree 0) (sen 0 live0 (sen 1 live0 on)) = true) ∧
    sensorValid (sensorOf on 0) = false ∧
    ok (.flowPulse 1 1) on (fun t => (sensorOf t 81).period == some 1) = true ∧
    ok (.flowPulseTimeout 1) on (fun t => (sensorOf t 81).period == none && (sensorOf t 81).primed) = true ∧
    (sensorOf on 79).cal = false ∧
    ok (.calibrationComplete 79 1 0 0) (sen 79 (fun x => { x with cal := true }) on) (fun t => !(sensorOf t 79).cal) = true ∧
    ok (.calibrationComplete 79 0 5 0x9000) (sen 79 (fun x => { x with cal := true }) on)
      (fun t => (sensorOf t 79).offset == 5 && t.isl.calCurB) = true ∧
    (let s := { sen 79 (fun x => { x with cal := true }) on with
                port := { on.port with ctx := [⟨.host, 5, 3, 0x901, [79], true, true, false, false⟩] } }
     (calRequest s 79).isSome = true ∧
     ok (.calibrationComplete 79 2 5 0x9000) s (fun t => (sget (t.win .host).replies 5).map (fun a => a.words) == some [79, 2]) = true) ∧
    ans 0x901 .sensorCal (req [0x100]) ((loaded none).onWin .tray fun x => { x with active := true, target := 3 }) 2 = true ∧
    ans 0x901 .sensorCal (req [0x100]) (loaded none) 9 = true ∧
    (calTableOk [1] = false ∧ ends 0x901 .sensorCal (req [0x100]) (loaded (some [1])) 9 (fun _ t => t.isl.calLoaded == none) = true) ∧
    readyB 0x901 (req [0x100]) (loaded (some calTable)) = true ∧
    ans 0x901 .sensorCal (req [80]) on 6 = true ∧
    ans 0x901 .sensorCal (req [79]) (sen 79 (fun x => { x with cal := true }) on) 2 = true ∧
    (feedsClosed on 63 = true ∧ ends 0x901 .sensorCal (req [63]) on 1 (fun _ t => (sensorOf t 63).deferred) = true) ∧
    (feedsClosed on 79 = false ∧ readyB 0x901 (req [79]) on = true ∧
      ok (.sensorCal (req [79])) on (fun t => (sensorOf t 79).cal && t.port.ctx.length == 1) = true) ∧
    ok (.sensorCal (req [63])) (sen 62 live0 on) (fun t => (sensorOf t 63).cal) = true ∧
    ans 0x902 .calTableLoad (req [166]) (on.onWin .tray fun x => { x with active := true, target := 3 }) 2 = true ∧
    ends 0x902 .calTableLoad (req [166]) on 0 (fun ws t => ws == [166] && (t.win .host).left == 166) = true := by decide +kernel

/-- A tick's inputs with one sample of channel c. -/
def tickOf (c : Nat) (v : Rat) : TickIn :=
  { samples := (List.range 80).map fun i => if i = c then [some v] else [], fromStrobe := false
    coreMeas := List.replicate 4 0, restMeas := 0, welt := List.replicate 7 0x180, pins := 5 }

theorem wit_TickAndForecast :
    ok (.controlTick (tickOf 63 100)) on (fun t => t.isl.tick == 1 && t.isl.tickHist == 0xFFFF && t.vlv.pinIn == 5 && t.welt.level[6] == 0x180) = true ∧
    (on.isl.calCommit = none ∧ (∀ c : Fin 82, (sensorOf on c).deferred = false) ∧ tripChannel on (tickOf 63 7359) 115 = none ∧ channelDieOn on 63 = true) ∧
    ok (.controlTick (tickOf 63 6400)) on (fun t => (sensorOf t 63).y == 6400 && (sensorOf t 63).primed) = true ∧
    (on.welt.thermTrip = false ∧ goingToS3 on = false ∧ tripChannel on (tickOf 63 7360) 115 = some 63) ∧
    ok (.frameStrobe 4500) on (fun t => t.isl.fireAt == 4500) = true ∧ ok (.frameStrobe 4499) on (fun t => t.isl.fireAt == 5500) = true ∧
    runs (.frameStrobe 5500) s2 = true ∧
    ok .loopOutputApply (on.onCtl fun c => { c with slots := vmod c.slots 23 fun x => { x with next := 0x4000 } })
      (fun t => (slotOf t 23).out == 0x4000) = true ∧
    ((slotOf on 23).actKind = 3 ∧ (slotOf on 23).actIndex = 3 ∧ (∀ j : Fin 32, j.val ≠ 23 → ¬ ((slotOf on j).actKind = 3 ∧ (slotOf on j).actIndex = 3))) ∧
    ok .loopOutputApply (on.onCtl fun c => { c with slots := vmod c.slots 31 fun x => { x with actKind := 4, actIndex := 255, next := 0x1234 } })
      (fun t => (objOf t true 127).data.take 2 == [0x34, 0x12]) = true ∧
    (mpRuns on = true ∧ mpRuns s3 = false ∧ runs (.zoneEnergyPush 2 false) on = true) ∧
    ok (.zoneEnergyPush 2 true) on (fun t => t.mbx.bridgeRetry == [2]) = true ∧
    (on.mbx.bridgeRetry = [] ∧ runs .bridgeRetryReissue on = true ∧
      ok (.zoneEnergyPush 3 false) (on.onMbx fun m => { m with bridgeRetry := [2] }) (fun t => t.mbx.bridgeRetry == [2, 3]) = true ∧
      ok .bridgeRetryReissue (on.onMbx fun m => { m with bridgeRetry := [2] }) (fun t => t.mbx.bridgeRetry == []) = true) ∧
    ok .bridgeRetryReissue (s3.onMbx fun m => { m with bridgeRetry := [2, 3] }) (fun t => t.mbx.bridgeRetry == []) = true ∧
    ok .forecastStale (lastIn .running 1 id) (fun t => t.isl.stale) = true ∧ on.last.st = .empty ∧ on.lace.idValid = false ∧
    ok (.forecastSend false) on (fun t => t.isl.rackSeq == 1) = true ∧
    (on.stew.a.grantHeld = false ∧ runs (.forecastSend true) on = true) ∧
    ok (.forecastSend false) (lane 0 act) (fun t => (objOf t false 3).tx == .pending) = true ∧
    ok (.forecastSend true) ((lane 0 act).onStew fun k => { k with a := { k.a with grantHeld := true } })
      (fun t => (sget t.stew.b.heard (rowNode t true)).isSome) = true := by decide +kernel

theorem wit_Toecap :
    ans 0x202 .toecapSet (req [9]) (on.onIsl fun i => { i with updateArm := true }) 6 = true ∧
    ends 0x202 .toecapSet (req [9]) on 0 (fun ws t => ws == [10] && t.isl.timeoutMs == 10) = true ∧
    (Master.mp ≠ .cobbler ∧ runs (.toecapService .mp 0) on = true ∧ masterReach on .cobbler = true) ∧
    ok (.toecapService .cobbler 0x7E1A) on (fun t => !t.isl.forced) = true ∧
    ok (.toecapService .cobbler 0x7E1B) s2 (fun t => t.isl.forced && t.isl.toecapHeld && (objOf t false 1).tx == .pending) = true ∧
    runs .toecapExpiry (on.onIsl fun i => { i with toecapHeld := true }) = true ∧
    (on.welt.test = none ∧ on.sec.isl.trial = false ∧ on.isl.expiries.length ≤ 1) ∧
    ok .toecapExpiry s2 (fun t => t.vlv.forcedToecap && (valveOf t 19).forced && t.pwr.event.getLsbD 1) = true ∧
    (on.vlv.forcedRail = false ∧ on.isl.forced = false ∧ on.vlv.forcedPower = false ∧ runs (.toecapRelease .cobbler) on = true) ∧
    (let s := { on with isl := { on.isl with forced := true, coolDegraded := true, restartAt := 1 }, log := { on.log with elapsed := 1000001 } }
     ok (.toecapRelease .cobbler) s (fun t => !t.isl.forced && !t.isl.coolDegraded && (slotOf t 0).plausHold) = true ∧
     ok (.toecapRelease .cobbler) { s with log := { on.log with elapsed := 1000000 } } (fun t => t.isl.forced) = true) ∧
    (let s := { on with vlv := { on.vlv with forcedRail := true, railS3 := some 5 }, log := { on.log with elapsed := 10000005 } }
     ok (.toecapRelease .cobbler) s (fun t => !t.vlv.forcedRail && t.vlv.railS3 == none) = true) ∧
    on.isl.procReset = false ∧ runs .islandProcessorRelease on = true ∧
    (let s := (fwS 2 fun f => { f with a := { f.a with image := fwImg }, b := bankB }).onIsl fun i => { i with procReset := true, fwRun := false }
     let fell := s.onSec fun c => { c with isl := { c.isl with cur := true, b := { c.isl.b with valid := false } } }
     let none_ := s.onSec fun c => { c with revoke := 0xFF }
     bootBank s 2 = some s.sec.isl.cur ∧ ok .islandProcessorRelease s (fun t => t.isl.fwRun && !t.isl.procReset) = true ∧
     bootBank fell 2 = some (!fell.sec.isl.cur) ∧ ok .islandProcessorRelease fell (fun t => t.isl.fwRun && !t.sec.isl.cur) = true ∧
     bootBank none_ 2 = none ∧ ok .islandProcessorRelease none_ (fun t => t.isl.bootFail && !t.isl.fwRun) = true) := by decide +kernel

theorem wit_IslandPower :
    on.isl.on = true ∧ ok .vIslLoss on (fun t => !t.isl.on && t.pwr.en == 0) = true ∧
    ok .islandPowerUp { on with pwr := { on.pwr with markerClean := false }, welt := { on.welt with killLatch := true } }
      (fun t => t.isl.on && t.welt.leakTrip && t.pwr.event.getLsbD 9 && t.log.powerOn == 1 && t.vlv.forcedPower) = true ∧
    ok .islandPowerUp { on with log := { on.log with powerOn := 0xFFFFFFFF }, sec := { on.sec with pendLife := some .production } }
      (fun t => t.log.powerOn == 0xFFFFFFFF && t.sec.life == .production && t.sec.debug == 0) = true := by decide +kernel

/-! ## Loops, valves, pumps and Welt -/

/-- Loop slots changed; words that name slot i. -/
def slotS (i : Nat) (f : Slot → Slot) (s : State) : State := s.onCtl fun c => { c with slots := vmod c.slots i f }
def slotReq (i n : Nat) : Req := req (mkW [(24, i)] :: List.replicate (n - 1) 0)
def held (i : Nat) : State :=
  { slotS i (fun x => { x with steward := true }) on with stew := { on.stew with b := { on.stew.b with grantHeld := true } } }
def testRun (n : Nat) (lim : Int) : TestRun :=
  { slot := 31, kind := 0, order := 7, dec := 1, hold := 1, amp := 0, base := 9, f0 := 0, f1 := 0, limit := lim, length := 5, n := n }
def tested (n : Nat) (lim : Int) : State :=
  (slotS 31 (fun x => { x with mode := .test, inKind := 1, inIndex := 70 }) on).onCtl fun c => { c with test := some (testRun n lim) }

theorem wit_LoopCommands :
    slotArg (slotReq 31 12).words = 31 ∧
    (stewardDenied (held 31) .host 31 = true ∧ ans 0x210 .loopConfig (slotReq 31 12) (held 31) 6 = true) ∧
    (stewardDenied on .host 31 = false ∧ outTaken on 0 (configured (slotReq 0 12).words 16384 (slotOf on 0)).outKind
        (configured (slotReq 0 12).words 16384 (slotOf on 0)).outIndex = false ∧ slotShut (slotOf on 0) = true ∧
      ans 0x210 .loopConfig (slotReq 0 12) on 2 = true) ∧
    (slotShut (slotOf on 31) = false ∧ ans 0x210 .loopConfig (slotReq 31 12) on 0 = true) ∧
    ans 0x211 .loopMode (slotReq 31 3) (held 31) 6 = true ∧ ans 0x211 .loopMode (slotReq 31 3) (tested 0 100) 2 = true ∧
    ends 0x211 .loopMode (slotReq 0 3) on 0 (fun _ t => (slotOf t 0).pendMode == some .openHold) = true ∧
    ans 0x212 .loopCoeffSet (slotReq 31 11) (held 31) 6 = true ∧ ans 0x212 .loopCoeffSet (slotReq 0 11) on 2 = true ∧
    ends 0x212 .loopCoeffSet (slotReq 16 11) on 0 (fun _ t => (slotOf t 16).kr == 0) = true ∧
    ans 0x903 .loopTest (slotReq 31 4) (held 31) 6 = true ∧ ans 0x903 .loopTest (slotReq 0 4) on 2 = true ∧
    ends 0x903 .loopTest (slotReq 31 4) on 0 (fun _ t => t.ctl.testSlot == 31 && (t.ctl.test.map fun y => y.length) == some 1) = true ∧
    ans 0x904 .captureRead (req []) (tested 0 100) 2 = true ∧
    ends 0x904 .captureRead (req []) (on.onCtl fun c => { c with capture := [(1, -1)] }) 0
      (fun ws t => ws == [2] && (t.win .host).outWords == [1, 0xFFFFFFFF]) = true ∧
    (modeArg 0x1F000002 = 2 ∧ inputInCal (sen 70 (fun x => { x with cal := true }) (slotS 31 (fun x => { x with inKind := 1, inIndex := 70 }) on))
        (slotOf (slotS 31 (fun x => { x with inKind := 1, inIndex := 70 }) on) 31) = true) ∧
    (let s := on.onCtl fun c => { c with test := some (testRun 0 0) }
     ends 0x211 .loopMode (req [mkW [(24, 31)], 0, 0]) s 0 (fun _ t => t.ctl.test == none && (slotOf t 31).pendMode == some .openHold) = true) ∧
    on.ctl.test = none ∧ (testRun 4 0).n < testTicks (testRun 4 0) ∧ testTicks (testRun 5 0) ≤ (testRun 5 0).n ∧ runs .testDone on = true ∧
    (limitPassed (tested 5 100) (slotOf (tested 5 100) 31) (testRun 5 100) (slotInput (tested 5 100) (slotOf (tested 5 100) 31)) = false ∧
      ok .testDone (tested 5 100) (fun t => t.ctl.event == 1 && (slotOf t 31).next == 9) = true) ∧
    (limitPassed (tested 5 (-1)) (slotOf (tested 5 (-1)) 31) (testRun 5 (-1)) (slotInput (tested 5 (-1)) (slotOf (tested 5 (-1)) 31)) = true ∧
      ok .testDone (tested 5 (-1)) (fun t => t.ctl.event == 2 && (slotOf t 31).next == 0x8000) = true) ∧
    (slotOf on 0).outOfBand < 1000 ∧
    ok (.loopImplausible 31) (slotS 31 (fun x => { x with outOfBand := 1000 }) (tested 5 100))
      (fun t => t.ctl.test == none && t.ctl.event == 2 && t.ctl.implaus == 0x80000000) = true ∧
    ok .testDone (slotS 31 (fun x => { x with outOfBand := 1000 }) (tested 5 100)) (fun t => t.ctl.event == 2) = true ∧
    ok (.loopImplausible 0) (slotS 0 (fun x => { x with outOfBand := 1000 }) on) (fun t => (slotOf t 0).fault && t.ctl.implaus == 1) = true ∧
    (slotOf on 0).atLimit < (slotOf on 0).satTime * 100 ∧ (slotOf on 0).mode = .closed ∧
    ok (.loopSaturated 0) (slotS 0 (fun x => { x with atLimit := 50000 }) on) (fun t => (slotOf t 0).satRaised && t.ctl.sat == 1) = true ∧
    ok (.loopSaturated 0) (slotS 0 (fun x => { x with atLimit := 50000, satAction := true }) on) (fun t => (slotOf t 0).mode == .openHold) = true ∧
    runs (.plausWindowEnd none) on = true ∧ runs (.plausWindowEnd (some 31)) on = true := by decide +kernel

/-- REP_EN with REP_LEN 4,096 asked of slot 31. -/
def repReq (en : Nat) : Req := req ([mkW [(24, 31)], mkW [(21, en)], 0, 4096] ++ List.replicate 8 0)
/-- The pool in use but for so many entries. -/
def poolS (free : Nat) : State :=
  slotS 4 (fun x => { x with repEn := true, repLen := 4096 - free }) ((List.range 3).foldl (fun s i => slotS (i + 1) (fun x => { x with repEn := true, repLen := 4096 }) s) on)

theorem wit_RepetitivePool :
    readyB 0x210 (repReq 1) (poolS 16) = true ∧ slotArg (repReq 1).words = 31 ∧
    ((List.range 32).map fun j => if (slotOf (poolS 16) j).repEn then 16 * (((slotOf (poolS 16) j).repLen + 15) / 16) else 0).sum = 16368 ∧
    (stewardDenied (poolS 16) .host 31 = false ∧ slotShut (slotOf (poolS 16) 31) = false ∧ outTaken (poolS 16) 31
      (configured (repReq 1).words 16 (slotOf (poolS 16) 31)).outKind (configured (repReq 1).words 16 (slotOf (poolS 16) 31)).outIndex = false) ∧
    ends 0x210 .loopConfig (repReq 1) (poolS 16) 0 (fun _ t => (slotOf t 31).repEn && (slotOf t 31).repLen == 16) = true ∧
    ends 0x210 .loopConfig (repReq 1) (poolS 0) 0 (fun _ t => !(slotOf t 31).repEn) = true ∧
    ends 0x210 .loopConfig (repReq 0) (poolS 16) 0 (fun _ t => !(slotOf t 31).repEn) = true := by decide +kernel

/-! ## Valves, pumps and pins -/

/-- A valve channel changed. -/
def vch (k : Nat) (f : Valve → Valve) (s : State) : State := onValve k f s

/-- The arguments of VALVE_CMD; slots that drive no output, so that a command reaches every channel. -/
def vArg (op k ms : Nat) : List Word := [mkW [(30, op), (16, k), (0, ms)], 0x12345678]
def bare (s : State) : State := s.onCtl fun c => { c with slots := Vector.replicate 32 {} }
def ph (s : State) (k : Nat) : VPhase := (valveOf s k).phase
def low (s : State) : State := s.onVlv fun v => { v with supplyLow := true }
def busy4 (s : State) : State := vch 0 (fun c => { c with phase := .boost }) (vch 1 (fun c => { c with phase := .peak })
  (vch 2 (fun c => { c with phase := .boost }) (vch 3 (fun c => { c with phase := .boost }) s)))
def inPh (p : VPhase) (k : Nat) : State := vch k (fun c => { c with phase := p, endAt := some 7 }) (bare on)

theorem wit_Valves_opcode :
    ends 0x220 .valveCmd (req (vArg 2 15 5)) on 0 (fun ws _ => ws.head? == some (mkW [(30, 2), (16, 15), (0, 5)])) = true ∧
    ends 0x220 .valveCmd (req (vArg 2 19 5)) on 0 (fun _ t => xvOf t 19 == putXv 0x12345678 (xvOf on 19)) = true ∧
    ans 0x220 .valveCmd (req (vArg 3 19 5)) on 0 = true ∧
    ans 0x220 .valveCmd (req (vArg 0 15 5)) on 6 = true ∧
    ans 0x220 .valveCmd (req (vArg 0 15 5)) ((bare on).onVlv fun v => { v with forcedRail := true }) 6 = true ∧
    ends 0x220 .valveCmd (req (vArg 0 15 5)) (bare on) 0 (fun _ t => ph t 15 == .boost && (valveOf t 15).endAt == some 50) = true ∧
    ends 0x220 .valveCmd (req (vArg 0 15 5)) (busy4 (bare on)) 0 (fun _ t => ph t 15 == .waiting) = true ∧
    ends 0x220 .valveCmd (req (vArg 0 15 5)) (low (bare on)) 0 (fun _ t => ph t 15 == .supplyWait) = true ∧
    ends 0x220 .valveCmd (req (vArg 0 16 60001)) (bare on) 0 (fun _ t => ph t 16 == .hold && (valveOf t 16).endAt == some 600000) = true ∧
    ends 0x220 .valveCmd (req (vArg 0 15 5)) (inPh .hold 15) 0 (fun _ t => (valveOf t 15).endAt == some 50) = true ∧
    ends 0x220 .valveCmd (req (vArg 0 15 5)) (inPh .peak 15) 0 (fun _ t => (valveOf t 15).pend == some (some 50)) = true ∧
    ans 0x220 .valveCmd (req (vArg 1 15 5)) (bare on) 0 = true ∧
    ends 0x220 .valveCmd (req (vArg 1 15 5)) (inPh .peak 15) 0 (fun _ t => ph t 15 == .closed) = true := by decide +kernel

theorem wit_Valves :
    (atBoundary on 0 = true ∧ atBoundary on 19 = false ∧ runs (.valvePeriodBoundary 19) on = true) ∧
    (inValveTest on 0 = false ∧ (valveSlot (bare on) 0).map (boundaryTicks on 0) = none ∧
      ok (.valvePeriodBoundary 0) ((bare on).onVlv fun v => { v with periodMs := 300, tickPeriod := 200 }) (fun t => (valveOf t 0).period == 200) = true) ∧
    ((valveSlot on 0).map (boundaryTicks on 0) = some 1000 ∧ ph on 0 = .closed ∧
      ok (.valvePeriodBoundary 0) on (fun t => ph t 0 == .boost && (valveOf t 0).endAt == some 1000) = true) ∧
    (barred on 0 = false ∧ ok (.valvePeriodBoundary 0) (vch 0 (fun c => { c with phase := .hold, endAt := some 3 }) on)
      (fun t => (valveOf t 0).endAt == some 1000) = true) ∧
    runs (.valveCommandEnd 19) on = true ∧
    ok (.valveCommandEnd 19) (vch 19 (fun c => { c with phase := .hold, endAt := some 0 }) on) (fun t => ph t 19 == .closed) = true ∧
    runs (.boostEnd 4 true none) on = true ∧
    ok (.boostEnd 4 true (some 70000)) (inPh .boost 4) (fun t => ph t 4 == .peak && (valveOf t 4).move == 65534) = true ∧
    ok (.boostEnd 4 false none) (inPh .boost 4) (fun t => ph t 4 == .peak && (valveOf t 4).fault == 1) = true ∧
    runs (.peakEnd 4 none) on = true ∧
    ok (.peakEnd 4 (some 9)) (inPh .peak 4) (fun t => ph t 4 == .hold && (valveOf t 4).move == 9) = true ∧
    (xvAway (inPh .peak 4).vlv 4 = false ∧
      ok (.peakEnd 4 none) (inPh .peak 4) (fun t => ph t 4 == .hold && (valveOf t 4).stuckCnt == 1 && t.vlv.event == 0x10) = true) ∧
    (let s := (inPh .peak 19).onVlv fun v => { v with pinFunc := Vector.replicate 12 1 }
     xvAway s.vlv 19 = true ∧ runs (.coilOvercurrent 19) s = true ∧
     ok (.peakEnd 19 (some 9)) s (fun t => ph t 19 == .hold && (valveOf t 19).move == 0xFFFF && (valveOf t 19).stuckCnt == 0) = true) ∧
    runs (.coilOvercurrent 4) on = true ∧
    ok (.coilOvercurrent 4) (inPh .boost 4) (fun t => ph t 4 == .closed && (valveOf t 4).fault == 2) = true ∧
    runs (.coilOpenLoad 4) (inPh .boost 4) = true ∧
    ok (.coilOpenLoad 4) (inPh .hold 4) (fun t => ph t 4 == .closed && (valveOf t 4).fault == 3) = true ∧
    runs .valveSupplyLow (low on) = true ∧
    ok .valveSupplyLow (inPh .hold 4) (fun t => t.vlv.supplyLow && ph t 4 == .supplyWait) = true ∧
    runs .valveSupplyRestored on = true ∧
    ok .valveSupplyRestored (low (inPh .supplyWait 4)) (fun t => !t.vlv.supplyLow && ph t 4 == .boost && ph t 5 == .closed) = true ∧
    ok .valveSupplyRestored (low (vch 4 (fun c => { c with phase := .supplyWait, endAt := some 0 }) on)) (fun t => ph t 4 == .closed) = true := by
  decide +kernel

/-- A PWM output changed; pins 4 to 7 not PRIMARY. -/
def pw (n : Nat) (f : Pwm → Pwm) (s : State) : State := onPwm n f s
def away : State := on.onVlv fun v => { v with pinFunc := Vector.replicate 12 1 }
def pwOf (s : State) (n : Nat) : Pwm := vget s.vlv.pwm n {}
def tOf (s : State) (n : Nat) : Tach := vget s.vlv.tach n {}

theorem wit_PumpsAndPins :
    ans 0x221 .pwmSet (req [mkW [(16, 3), (15, 1), (0, 9)], 600]) on 6 = true ∧
    ends 0x221 .pwmSet (req [mkW [(16, 3), (0, 9)], 600]) on 0 (fun _ t => (pwOf t 3).minDuty == 512 && (pwOf t 3).duty == 0x3FF) = true ∧
    ends 0x221 .pwmSet (req [mkW [(16, 3), (15, 1), (0, 9)], 600]) (bare on) 0 (fun _ t => (pwOf t 3).duty == 9) = true ∧
    ans 0x222 .pinFuncSet (req [mkW [(16, 15), (0, 1)]]) (on.onVlv fun v => { v with forcedPower := true }) 6 = true ∧
    ends 0x222 .pinFuncSet (req [mkW [(16, 15), (8, 1), (0, 1)]]) on 0 (fun _ t => t.vlv.pinOut == 0x800 && pinFn t.vlv 11 == 1) = true ∧
    ok (.pwmReload 3) ((pw 3 (fun p => { p with duty := 5 }) on).onVlv fun v => { v with forcedRail := true }) (fun t => (pwOf t 3).active == 1023 && pwmHigh (pwOf t 3) == 2000) = true ∧
    ok (.pwmReload 3) (pw 3 (fun p => { p with duty := 204 }) on) (fun t => (pwOf t 3).active == 205) = true ∧
    ok (.pwmReload 3) (pw 3 (fun p => { p with duty := 0, stopEn := true }) on) (fun t => (pwOf t 3).active == 0) = true ∧
    runs (.pwmDutyWrite .mp 3 9) on = true ∧
    ok (.pwmDutyWrite .mp 3 9) (bare on) (fun t => (pwOf t 3).duty == 9) = true ∧
    (pinFn away.vlv 7 ≠ 0 ∧ runs (.tachEdge 3 9) away = true ∧ pinFn on.vlv 7 = 0) ∧
    ok (.tachEdge 3 9) on (fun t => (tOf t 3).last == some 9) = true ∧
    ok (.tachEdge 3 500000) (onTach 3 (fun t => { t with last := some 500000 }) on) (fun t => (tOf t 3).rpm == 3000) = true ∧
    ok (.tachTimeout 3) (onTach 3 (fun t => { t with rpm := 9 }) on) (fun t => (tOf t 3).rpm == 0) = true ∧
    runs (.pumpStall 3) (pw 3 (fun p => { p with stallEn := false }) on) = true ∧
    ok (.pumpStall 3) on (fun t => t.vlv.stall == 8 && (tOf t 3).stalled) = true := by decide +kernel

/-! ## Welt -/

def trip' (f : WeltBlk → WeltBlk) (el : Nat) : State :=
  { on with welt := f { on.welt with leakTrip := true, dryFrom := some 0 }, log := { on.log with elapsed := el } }
def wet (w : WeltBlk) : WeltBlk := { w with level := Vector.replicate 7 0xFFF }
def armArg (lk tk : Nat) : List Word := [mkW [(31, lk), (30, tk), (0, 0x3F)], mkW [(24, 10), (0, 50)], mkW [(21, 1), (0, 0x5000)]]
def tArg (a b : Nat) : List Word := [mkW [(18, a), (16, b), (0, 9)], 20]
def vTest : VTest := ⟨1, 2, 9, 20, {}, {}⟩
def testS : State := s2.onWelt fun w => { w with test := some vTest, pStart := 500 }
def flowS (f : WeltBlk → WeltBlk) : State :=
  (flowing 2000).onWelt fun w => f { w with winS := 2, imbMl := 50, flow := [(100, 40), (3, 3)] }

theorem wit_Welt :
    ends 0x231 .weltArm (req (armArg 0 0)) on 0 (fun _ t => vget t.welt.thresh 5 0 == 0x4000 && vget t.welt.thresh 4 0 == 0x100) = true ∧
    (leakDry (trip' wet 10000000) = false ∧
      ends 0x231 .weltArm (req (armArg 1 1)) (trip' wet 10000000) 0 (fun _ t => t.welt.leakTrip && t.welt.event == 0x20) = true) ∧
    ends 0x231 .weltArm (req (armArg 0 1)) (trip' (fun w => { w with thermTrip := true }) 10000000) 0 (fun _ t => !t.welt.thermTrip) = true ∧
    ans 0x905 .valveTest (req (tArg 1 1)) s2 6 = true ∧ ans 0x905 .valveTest (req (tArg 1 2)) on 6 = true ∧
    ans 0x905 .valveTest (req (tArg 1 2)) testS 2 = true ∧
    ends 0x905 .valveTest (req (tArg 1 2)) s2 0 (fun _ t => t.welt.test.map (fun x => x.limit) == some 20) = true ∧
    ok (.leakTrip 5 [1, 2, 3, 4, 5, 9]) (on.onWelt fun w => { w with arm := 0 }) (fun t => !t.welt.leakTrip && vget t.welt.level 5 0 == 9) = true ∧
    ok (.leakTrip 5 []) (trip' id 77) (fun t => t.welt.dryFrom == some 77) = true ∧
    ok (.leakTrip 5 [0, 0, 0, 0, 0, 0x100]) s2 (fun t => t.welt.leakTrip && t.welt.tripSrc == 6 && t.pwr.en == 0 && (objOf t false 0).tx == .pending) = true ∧
    ((objOf on false 0).valid = true ∧ (objOf on false 0).send = true ∧ (objOf on false 0).tx ≠ .onBus) ∧
    runs (.weltSenseFault 5) (on.onWelt fun w => { w with senseFault := 0x20 }) = true ∧
    ok (.weltSenseFault 5) on (fun t => t.welt.senseFault == 0x20 && t.welt.event == 4) = true ∧
    ok (.weltSenseRecovered 5) (on.onWelt fun w => { w with senseFault := 0x3F }) (fun t => t.welt.senseFault == 0x1F) = true ∧
    runs (.clearLeak true) on = true ∧
    ok (.clearLeak true) (trip' wet 10000000) (fun t => t.welt.leakTrip && t.welt.event == 0x20) = true ∧
    ok (.clearLeak false) (trip' id 10000000) (fun t => t.welt.leakTrip && t.welt.event == 0x20) = true ∧
    (thermOver (trip' (fun w => { w with thermTrip := true }) 10000000) = true ∧
      ok .clearTherm (trip' (fun w => { w with thermTrip := true }) 10000000) (fun t => !t.welt.thermTrip) = true) ∧
    ok .clearTherm (trip' (fun w => { w with thermTrip := true }) 9999999) (fun t => t.welt.thermTrip) = true ∧
    (flowSuspended on = true ∧ ok (.flowBalanceEvaluation 9 9) on (fun t => t.welt.flow == []) = true) ∧
    (flowSuspended (flowS id) = false ∧
      ok (.flowBalanceEvaluation 9 9) (flowS fun w => { w with winS := 10 }) (fun t => t.welt.flow.length == 3) = true) ∧
    ok (.flowBalanceEvaluation 0 10) (flowS fun w => { w with episode := true }) (fun t => !t.welt.episode) = true ∧
    ok (.flowBalanceEvaluation 0 9) (flowS fun w => { w with episode := true }) (fun t => t.welt.episode && t.welt.event == 0) = true ∧
    ok (.flowBalanceEvaluation 0 9) (flowS id) (fun t => t.welt.episode && t.welt.event == 8) = true ∧
    (flowSuspended (flowS fun w => { w with flowAction := true }) = false ∧ 50 < flowDiff [(0, 9), (100, 40)] ∧
      (flowS id).welt.leakTrip = false) ∧
    runs (.valveTestStartSample 200) on = true ∧ runs (.valveTestResult 200) on = true ∧
    ok (.valveTestStartSample 200) testS (fun t => t.welt.pStart == 200 && t.welt.test.isSome) = true ∧
    ok (.valveTestStartSample 199) testS (fun t => t.welt.result == 3 && t.welt.test == none) = true ∧
    ok (.valveTestResult 480) testS (fun t => t.welt.result == 1 && t.welt.suspendS == 10) = true ∧
    ok (.valveTestResult 479) testS (fun t => t.welt.result == 2 && t.welt.event == 0x10) = true ∧
    -- a forced channel stays as it is, the other goes back to its prior state
    ok (.valveTestResult 480) (vch 17 (fun c => { c with forced := true, phase := .hold, endAt := none })
        (vch 18 (fun c => { c with phase := .hold, endAt := none }) testS))
      (fun t => ph t 17 == .hold && (valveOf t 17).endAt == none && ph t 18 == .closed) = true := by decide +kernel

/-- Ten seconds of dry samples, if none between the ticks was wet, which is a free value (notes/assumptions/169). -/
theorem wit_leak_dry (h : Config.dryBetween 10000000 = true) :
    leakDry (trip' id 10000000) = true ∧ leakDry (trip' id 9999999) = false := by
  have a : (trip' id 9999999).welt.dryFrom.any (fun t => decide (t + 10000000 ≤ (trip' id 9999999).log.elapsed)) = false := by
    decide +kernel
  refine ⟨?_, by unfold leakDry; rw [a, Bool.and_false]⟩
  unfold leakDry
  rw [show (trip' id 10000000).log.elapsed = 10000000 from rfl, h]
  decide +kernel

/-! ## The row bus -/

/-- A channel changed; a package whose channels A and B take part in the bus, with error counters, and which is not listen-only;
an object changed. -/
def rch (b : Bool) (f : RowCh → RowCh) (s : State) : State := onRowCh b f s
def liveCh (c : RowCh) : RowCh := { c with en := true, xcvrOn := true, st := .active, locked := true }
def rowS : State := rch true liveCh (rch false liveCh (lane 0 act))
def obj (b : Bool) (m : Nat) (f : Obj → Obj) (s : State) : State := onObj b m f s
def rcv (f : Obj → Obj) : State := obj true 9 (fun o => f { o with valid := true, ident := 0x300, seqChk := true }) rowS
def snd (f : Obj → Obj) : State := obj true 9 (fun o => f { o with valid := true, send := true, ident := 0x300, data := List.replicate 64 7 }) rowS
def fr (id : Nat) (q : Byte) : CanFrame :=
  { ident := id, extended := false, dlc := 8, data := q :: List.replicate 7 1, sof := 5000, inBand := true }
def cw (b en v : Nat) : List Word := [mkW [(29, b), (28, en), (26, v)], 0, 0]
def rc (t : State) (b : Bool) : RowCh := rowCh t b

theorem wit_RowFrames_receive :
    (rowLive on true = false ∧ runs (.rowFrameReceive true (fr 0x300 0)) on = true) ∧ rowLive rowS true = true ∧
    ok (.rowFrameReceive true (fr 0x301 0)) rowS (fun t => (rc t true).unmatched == 1 && (rc t true).goodFrames == 1) = true ∧
    (recvObj (rcv id) true 0x300 = some 9 ∧ seqJudge (objOf (rcv id) true 9) 5 = .accept) ∧
    (seqJudge (objOf (rcv fun o => { o with seen := true, seq := 6 }) true 9) 5 = .late ∧
      ok (.rowFrameReceive true (fr 0x300 5)) (rcv fun o => { o with seen := true, seq := 6 }) (fun t => (rc t true).lateDrop == 1) = true) ∧
    (seqJudge (objOf (rcv fun o => { o with seen := true, seq := 5 }) true 9) 5 = .duplicate ∧
      ok (.rowFrameReceive true (fr 0x300 5)) (rcv fun o => { o with seen := true, seq := 5 }) (fun t => (rc t true).lateDrop == 0) = true) ∧
    ok (.rowFrameReceive true (fr 0x300 5)) (rcv fun o => { o with new := true }) (fun t => (objOf t true 9).lost && (objOf t true 9).seq == 5) = true ∧
    ok (.rowFrameReceive true (fr 0x300 5)) (rcv fun o => { o with owned := true }) (fun t => (objOf t true 9).shadow.isSome) = true ∧
    runs (.receiveError true true) on = true ∧
    ok (.receiveError true true) (rch true (fun c => { c with locked := false, goodFrames := 3 }) rowS) (fun t => (rc t true).goodFrames == 0 && (rc t true).recCnt == 0) = true ∧
    ok (.receiveError true true) (rch true (fun c => { c with recCnt := 118 }) rowS) (fun t => (rc t true).recCnt == 127 && (rc t true).st == .active) = true ∧
    ok (.receiveError true true) (rch true (fun c => { c with recCnt := 119 }) rowS) (fun t => (rc t true).recCnt == 128 && (rc t true).st == .passive) = true ∧
    ok (.busOffRecovery true) (rch true (fun c => { c with st := .busOff }) rowS) (fun t => (rc t true).st == .active) = true ∧
    runs (.busOffRecovery true) rowS = true ∧
    (xcvrWanted on false = true ∧ ok (.busIntegrationComplete false) on (fun t => (rc t false).st == .active) = true) ∧
    (xcvrWanted on true = false ∧ runs (.busIntegrationComplete true) on = true) := by decide +kernel

theorem wit_RowFrames_send :
    (listenOnly rowS true = false ∧ runs (.transmissionStart true 7 false) rowS = true) ∧
    (nextToSend (snd fun o => { o with tx := .pending }) true = some 9 ∧ onBusObj (rc (snd fun o => { o with tx := .pending }) true) = none) ∧
    ok (.transmissionStart true 0x100000007 true) (snd fun o => { o with tx := .pending }) (fun t => (objOf t true 9).tx == .onBus && (objOf t true 9).ts == 7) = true ∧
    (runs (.rowFrameSent true 3) rowS = true ∧ runs (.txAttemptFail true false) rowS = true) ∧
    (let s := snd fun o => { o with tx := .onBus }
     onBusObj (rc s true) = some 9 ∧
     ok (.rowFrameSent true 98) (rch true (fun c => { c with tecCnt := 128 }) s) (fun t => (objOf t true 9).tx == .sent && (rc t true).tecCnt == 127 && (rc t true).event == 0x100) = true ∧
     failEnd (objOf s true 9) = .again ∧
     ok (.txAttemptFail true false) (rch true (fun c => { c with tecCnt := 119 }) s) (fun t => (objOf t true 9).tx == .pending && (rc t true).tecCnt == 127) = true ∧
     ok (.txAttemptFail true false) (rch true (fun c => { c with tecCnt := 248 }) s) (fun t => (rc t true).st == .busOff) = true) ∧
    ok (.txAttemptFail true true) (snd fun o => { o with tx := .onBus, cancelMark := true }) (fun t => (objOf t true 9).tx == .cancelled) = true ∧
    ok (.txAttemptFail true true) (snd fun o => { o with tx := .onBus, expireMark := true }) (fun t => (objOf t true 9).tx == .expired && (rc t true).event == 0x20) = true ∧
    ok (.txAttemptFail true true) (snd fun o => { o with tx := .onBus, attempts := 15 }) (fun t => (objOf t true 9).tx == .abandoned && (rc t true).event == 0x10) = true ∧
    ans 0x240 .rowConfig (req (cw 0 0 2)) on 6 = true ∧
    (xcvrWanted rowS false = true ∧ ends 0x240 .rowConfig (req (cw 0 1 1)) rowS 0 (fun _ t => (rc t false).sendVer == 1) = true) ∧
    ends 0x240 .rowConfig (reqT (cw 0 0 2)) rowS 0 (fun _ t => !(rc t false).en && !(rc t false).xcvrOn && (rc t false).st == .off) = true ∧
    ((stewOf rowS false).grantHeld = false ∧ rowS.row.a.objs.toList.all (fun o => o.tx == .idle) = true) ∧
    ends 0x240 .rowConfig (reqT (cw 0 1 1)) (rch false (fun c => { c with en := false, xcvrOn := false }) rowS) 0 (fun _ t => (rc t false).xcvrOn && (rc t false).st == .off) = true := by
  decide +kernel

theorem wit_Objects :
    ok (.objectExpired true 9) (snd fun o => { o with tx := .pending }) (fun t => (objOf t true 9).tx == .expired) = true ∧
    ok (.objectExpired true 9) (snd fun o => { o with tx := .onBus }) (fun t => (objOf t true 9).expireMark) = true ∧
    runs (.objectExpired true 9) on = true ∧
    ok (.objectStale true 9) (rcv fun o => { o with window := 5 }) (fun t => (objOf t true 9).stale) = true ∧
    ok (.objectStale true 9) (rcv id) (fun t => !(objOf t true 9).stale) = true ∧
    ok (.objectPeriodicQueue true 9) (snd fun o => { o with period := 10 }) (fun t => (objOf t true 9).tx == .pending) = true ∧
    runs (.objectPeriodicQueue true 9) on = true ∧
    (objWritable on .mp 9 = false ∧ objWritable on .cobbler 3 = false ∧ runs (.objReq .mp true 9) on = true ∧
      runs (.objCancel .cobbler true 3) on = true ∧ runs (.objLock .mp true 9) on = true ∧ objWritable on .cobbler 9 = true) ∧
    ok (.objReq .cobbler true 9) (snd id) (fun t => (objOf t true 9).tx == .pending && (objOf t true 9).latched == List.replicate 64 7) = true ∧
    ok (.objReq .cobbler true 9) (snd fun o => { o with tx := .onBus }) (fun t => (objOf t true 9).next == some (List.replicate 64 7)) = true ∧
    ok (.objReq .cobbler true 9) (rcv id) (fun t => (objOf t true 9).tx == .idle) = true ∧
    ok (.objCancel .cobbler true 9) (snd fun o => { o with tx := .pending }) (fun t => (objOf t true 9).tx == .cancelled) = true ∧
    ok (.objCancel .cobbler true 9) (snd fun o => { o with tx := .onBus }) (fun t => (objOf t true 9).cancelMark) = true ∧
    runs (.objCancel .cobbler true 9) (snd id) = true ∧
    ok (.objLock .cobbler true 9) (rcv id) (fun t => (objOf t true 9).owned) = true ∧
    runs (.objLock .cobbler true 9) (snd id) = true ∧
    ok (.objAck .mp true 9) (rcv fun o => { o with owned := true }) (fun t => !(objOf t true 9).owned) = true ∧
    ok (.objAck .mp true 9) (rcv fun o => { o with owned := true, shadow := some [1] }) (fun t => (objOf t true 9).new && (objOf t true 9).data == [1]) = true ∧
    runs (.objAck .mp true 3) on = true := by decide +kernel

theorem wit_ObjectsAndRowTime :
    runs .leakRepeat on = true ∧
    ok .leakRepeat (rowS.onWelt fun w => { w with leakTrip := true, tripSrc := 3 }) (fun t => (objOf t false 0).tx == .pending && (objOf t true 0).data.head? == some 0x30) = true ∧
    (on.row.b.xcvrOn = false ∧ ok .leakRepeat (on.onWelt fun w => { w with thermTrip := true }) (fun t => (objOf t true 0).tx == .idle) = true) ∧
    runs .failsafeRepeat on = true ∧
    ok .failsafeRepeat (rowS.onIsl fun i => { i with forced := true }) (fun t => (objOf t true 1).data.head? == some 0x80) = true ∧
    ok .failsafeRepeat (on.onIsl fun i => { i with forced := true }) (fun t => (objOf t false 1).tx == .pending) = true ∧
    runs (.refQueue true) on = true ∧
    ok (.refQueue true) ((obj true 2 (fun o => { o with send := true }) (rch true (fun c => { c with cycle := 63 }) rowS)).onRow fun r => { r with masterB := true })
      (fun t => (rc t true).cycle == 0 && (objOf t true 2).tx == .pending) = true ∧
    runs (.ref true (fr 0x080 1)) on = true ∧
    (disciplinedBy rowS false = true ∧ ok (.ref false (fr 0x080 1)) rowS (fun t => (rc t false).prevSof == some 5000 && (rc t false).refEpoch == some 1) = true) ∧
    runs .rowTimeHoldover on = true ∧
    ok .rowTimeHoldover (on.onRow fun r => { r with tsync := 1 }) (fun t => t.row.tsync == 3) = true ∧
    runs .rowTimeSlewEnd (on.onRow fun r => { r with tsync := 3 }) = true ∧
    ok .rowTimeSlewEnd (on.onRow fun r => { r with tsync := 2, slew := 5, slewBack := 1 }) (fun t => t.row.tsync == 1 && t.row.offset == 5) = true ∧
    (masterReach s3 .mp = false ∧ runs (.timeLoRead .mp true) s3 = true ∧ masterReach on .mp = true) ∧
    (let s := { on with log := { on.log with elapsed := 0x500000007 } }
     ok (.timeLoRead .mp false) s (fun t => t.port.rdata == [7] && vget t.log.capElapsed Master.mp.id 0 == 5) = true ∧
     ok (.timeLoRead .mp true) s (fun t => t.port.rdata == [7] && vget t.log.capRow Master.mp.id 0 == 5) = true) ∧
    ans 0x603 .timeSet (req [500, 0]) (on.onRow fun r => { r with tsync := 1 }) 6 = true ∧
    ends 0x603 .timeSet (req [1000, 0]) (on.onRow fun r => { r with epoch := 5 }) 0 (fun _ t => t.row.slew == 1000 && t.row.rate == 10000) = true ∧
    ends 0x603 .timeSet (req [1001, 0]) (on.onRow fun r => { r with epoch := 0xFFFF }) 0 (fun _ t => t.row.offset == 1001 && t.row.epoch == 1) = true ∧
    ends 0x603 .timeSet (req [7, 0]) on 0 (fun _ t => t.row.offset == 7 && t.row.epoch == 1) = true := by decide +kernel
/-! ## Stewardship and the event recorder -/

/-- A stewardship of the package in slot 0 changed, on a live row bus; messages; a candidate heard. -/
def stew (b : Bool) (f : StewCh → StewCh) (s : State) : State := onStewCh b f s
def so (s : State) (b : Bool) : StewCh := stewOf s b
def msg (term holder sender reason : Nat) : StewMsg :=
  { type := 0, schema := 2, term := term, holder := holder, sender := sender, reason := reason }
def hd : Heard := ⟨0, 5, [9]⟩
def me3 : State := stew false (fun c => { c with term := 5, holder := 3, heard := [(1, hd)] }) rowS
def refS (f : StewCh → StewCh) : State := stew false (fun c => f { c with referee := true }) me3
def holdS : State := stew false (fun c => { c with grantHeld := true, holder := 0 }) (me3.onRow fun r => { r with masterA := true })

/-- The same with the rails of S2, where no wake can come of it. -/
def cold (s : State) : State := { s with pwr := s2.pwr }

theorem wit_Grants :
    (rowLive on false = false ∧ runs (.grant false (msg 6 1 2 1)) on = true ∧ runs (.request false (msg 6 1 2 1)) on = true ∧
      runs (.release false (msg 6 1 2 1)) on = true ∧ runs (.failsafe false 3 true) on = true) ∧
    (rowLive me3 false = true ∧ rowLive (refS id) false = true ∧ rowLive holdS false = true ∧ rowLive (cold me3) false = true) ∧
    ok (.grant false (msg 5 1 2 1)) me3 (fun t => (so t false).term == 5 && (so t false).holder == 1) = true ∧
    (let s := stew false (fun c => { c with term := 5 }) holdS
     ok (.grant false (msg 5 0 2 5)) s (fun t => (so t false).grantHeld && t.stew.pushNo == 1) = true ∧
     ok (.grant false (msg 5 0 2 1)) s (fun t => (so t false).grantHeld && t.stew.pushNo == 0) = true) ∧
    -- a test in one of the steward's slots ends with the takeover, one in another slot does not
    (let s := fun i : Nat => (cold me3).onCtl fun c => { c with test := some { testRun 0 0 with slot := i } }
     ok (.grant false (msg 6 0 2 1)) (s 27) (fun t => (so t false).grantHeld && t.ctl.test == none && t.ctl.event == 2) = true ∧
     ok (.grant false (msg 6 0 2 1)) (s 28) (fun t => (so t false).grantHeld && t.ctl.test.isSome) = true) ∧
    (rowNode me3 false = 0 ∧ termNewer 5 5 = false ∧ termNewer 4 5 = false ∧ termNewer 6 5 = true) ∧
    ok (.grant false (msg 4 1 2 1)) (refS id) (fun t => (so t false).term == 5 && !(so t false).referee) = true ∧
    ok (.grant false (msg 6 1 2 1)) (refS id) (fun t => (so t false).term == 6 && (so t false).holder == 1 && !(so t false).referee) = true ∧
    ok (.grant false (msg 6 1 2 1)) holdS (fun t => !(so t false).grantHeld && !timeMaster t false) = true ∧
    (mayHold me3 false = true ∧
      ok (.grant false (msg 6 0 2 1)) (cold me3) (fun t => (so t false).grantHeld && timeMaster t false && (slotOf t 24).pendMode == some .closed) = true) ∧
    runs (.request false (msg 5 3 1 5)) me3 = true ∧
    ok (.request false (msg 5 3 1 5)) (refS id) (fun t => (so t false).takeback == some 1 && (so t false).holder == 3) = true ∧
    ok (.release false (msg 5 3 2 3)) (refS id) (fun t => (so t false).ineligible == [2] && (so t false).term == 5) = true ∧
    ok (.release false (msg 5 3 3 6)) (refS fun c => { c with takeback := some 2 }) (fun t => (so t false).holder == 2 && (so t false).term == 6) = true ∧
    (standbyOf (bar false 3 (refS id)) false = some 1 ∧
      ok (.release false (msg 5 3 3 4)) (refS id) (fun t => (so t false).holder == 1 && (so t false).ineligible == [3]) = true) ∧
    (standbyOf (refS id) false = some 1 ∧ ok (.release false (msg 5 3 3 6)) (refS id) (fun t => (so t false).holder == 1) = true) ∧
    runs (.taken false (msg 5 3 3 0)) me3 = true := by decide +kernel

theorem wit_Referee :
    runs (.failsafe false 3 false) me3 = true ∧
    ok (.failsafe false 3 true) me3 (fun t => (so t false).ineligible == [3] && (so t false).term == 5) = true ∧
    ok (.failsafe false 3 true) (refS id) (fun t => (so t false).holder == 1 && (so t false).term == 6) = true ∧
    ok (.candidateEligible false 3) (stew false (fun c => { c with ineligible := [2, 3] }) me3) (fun t => (so t false).ineligible == [2]) = true ∧
    runs (.heartbeatLost false) me3 = true ∧
    ok (.heartbeatLost false) (refS id) (fun t => (so t false).holder == 1) = true ∧
    (standbyOf (refS fun c => { c with heard := [], takeback := some 1 }) false = none ∧
      ok (.heartbeatLost false) (refS fun c => { c with heard := [], takeback := some 1 }) (fun t => (so t false).takeback == none && (so t false).term == 5) = true) ∧
    (let s := stew false (fun c => { c with heard := [(2, hd)] }) (rowS.onLace fun l => { l with slot := 2 })
     refereeNamed s false = true ∧ ok (.refereeStart false) s (fun t => (so t false).referee) = true) ∧
    (refereeNamed me3 false = false ∧ runs (.refereeStart false) me3 = true) ∧
    ok (.initialGrant false) (refS fun c => { c with holder := 0x3F }) (fun t => (so t false).holder == 1 && (so t false).term == 6) = true ∧
    runs (.initialGrant false) me3 = true ∧
    (heardRow holdS = false ∧ nodesFollow (refS fun c => { c with checkNodes := [9] }) false = false) ∧
    ok (.latentFaultCheck false) holdS (fun t => (so t false).ineligible == [0] && t.row.a.objs.toList.any isRelease) = true ∧
    ok (.latentFaultCheck false) (refS fun c => { c with checkNodes := [9] }) (fun t => (so t false).holder == 1 && (so t false).ineligible == [3]) = true ∧
    (let s := refS fun c => { c with checkNodes := [9], heard := [] }
     standbyOf (bar false 3 s) false = none ∧
     ok (.latentFaultCheck false) s (fun t => (so t false).holder == 3 && (so t false).ineligible == [3]) = true) ∧
    (runs (.latentFaultCheck false) me3 = true ∧ ok (.latentFaultCheck false) (refS id) (fun t => (so t false).ineligible == []) = true) ∧
    runs (.takebackRequest false) me3 = true ∧
    (let s := me3.onStew fun w => { w with push := some {}, pushAt := some 0 }
     channelFit s false = true ∧ pushFresh s = true ∧ stewEligible s false 0 = true ∧
     ok (.takebackRequest false) s (fun t => t.row.a.objs.toList.any fun o => o.ident == 0x08A && o.tx == .pending) = true) ∧
    runs (.takebackReleaseTimeout false) me3 = true ∧
    ok (.takebackReleaseTimeout false) (refS fun c => { c with takeback := some 2 }) (fun t => (so t false).holder == 2) = true ∧
    ensureObj false 0x08A true 8 (some 1) 0 (obj false 4 (fun o => { o with valid := true, send := true, ident := 0x08A }) me3)
      = (some 4, obj false 4 (fun o => { o with valid := true, send := true, ident := 0x08A }) me3) := by decide +kernel

def segD (no j : Byte) : List Byte := [0x80, 0, 9, 0, no, j, 0xFE, 0x0F, 1, 0, 0, 0, 2, 0, 0, 0]
def part (k : Nat) : State :=
  rowS.onStew fun w => { w with partPush := { push := 7, term := 9, segs := (List.range k).map fun i => (i, [1]) } }

theorem wit_StateCapsAndConfig :
    runs .statePush on = true ∧ ok .statePush holdS (fun t => t.stew.pushNo == 1 && t.row.b.objs.toList.all fun o => o.tx == .idle) = true ∧
    runs (.state false 3 (segD 7 0)) holdS = true ∧
    ok (.state false 3 (segD 7 0)) (part 3) (fun t => t.stew.push.isSome && t.stew.pushAt == some 0) = true ∧
    ok (.state false 3 (segD 8 0)) (part 3) (fun t => t.stew.push == none && t.stew.partPush.push == 8) = true ∧
    ok (.state false 7 (segD 7 7)) rowS (fun t => sget t.stew.tables (4096 * 7 + 4095) == some 2 && t.stew.tables.length == 2) = true ∧
    ok .stewardStep (rowS.onStew fun w => { w with pendCfg := some { rowCap := 20 } }) (fun t => t.stew.cfg.rowCap == 20) = true ∧
    (rowNode holdS false < 64 ∧ runs .stewardStep holdS = true) ∧ runs .stewardCapLost rowS = true ∧
    (holdS.stew.pendCfg = none ∧ holdS.stew.b.grantHeld = false ∧ holdS.stew.b.referee = false) ∧
    (rowS.stew.a.referee = false ∧ rowS.stew.pendCfg = none ∧ runs .stewardStep rowS = true) ∧
    runs (.limit false 7 [1, 2, 3]) rowS = true ∧ ok (.limit false 0 [401]) rowS (fun t => t.pwr.stewardW == 401 && t.stew.limitAt == some 0) = true ∧
    (rowNode rowS true / 8 = 0 ∧ ok (.limit true 0 [401]) rowS (fun t => t.stew.rackEntry == 401) = true) ∧
    runs .stewardCapLost on = true ∧
    ok .stewardCapLost (on.onStew fun w => { w with limitAt := some 0 }) (fun t => t.pwr.stewardW == 1200 && t.stew.limitAt == none) = true ∧
    ends 0x251 .stewardConfig (req [0x80011000, 0x00070001, 0x10001000, 0x10000000, 0x1000]) on 0
      (fun _ t => t.stew.pendCfg.map (fun c => (c.rackCap, c.rowCap, c.rackDp, c.dpFf)) == some (1024, 16, 4000, 1000)) = true := by decide +kernel

def ir : IslRec := ⟨0, 0, 0, Ev.rowErrPassive, 1, []⟩
def mr : MainRec := mkMain on Ev.rowErrPassive []
def lg (f : LogBlk → LogBlk) : State := on.onLog f
def pg (n : Nat) : List (Nat × IslRec) := (List.range n).map fun i => (i, ir)
def qd (n : Nat) : State := lg fun l => { l with islQueue := [ir], pageA := pg n, islNext := n }

theorem wit_EventRecorder :
    (let s := on.onWelt fun w => { w with thermTrip := true }
     runs .islandRecordProgrammed s = true ∧ runs .mainRecordProgrammed s = true) ∧
    runs .islandRecordProgrammed on = true ∧
    ok .islandRecordProgrammed (qd 1022) (fun t => (curPage t.log).length == 1023 && !t.log.pageErase) = true ∧
    ok .islandRecordProgrammed (qd 1023) (fun t => (curPage t.log).length == 1024 && t.log.pageErase) = true ∧
    (let s := (qd 2048).onLog fun l => { l with pageErase := true }
     ok .islandRecordProgrammed s (fun t => !t.log.curB && t.log.islQueue == [ir]) = true) ∧
    ok .islandRecordProgrammed (qd 2048) (fun t => t.log.curB && curPage t.log == [(2048, ir)]) = true ∧
    ok .openRecordClose (lg fun l => { l with islOpen := some ir }) (fun t => t.log.islQueue == [ir]) = true ∧
    runs .openRecordClose on = true ∧ ok .islandPageEraseDone (lg fun l => { l with pageErase := true }) (fun t => !t.log.pageErase) = true ∧
    (mpRuns s3 = false ∧ runs .mainRecordProgrammed s3 = true ∧ runs .islandRecordCopy s3 = true ∧ runs (.tokenAdd 7) s3 = true ∧ mpRuns on = true) ∧
    ok .mainRecordProgrammed (lg fun l => { l with mainQueue := [mr], mainNext := 1023 }) (fun t => t.log.mainNext == 1024) = true ∧
    ok .mainRecordProgrammed (lg fun l => { l with mainQueue := [mr], mainNext := 511, mainLog := [(3, mr)] }) (fun t => t.log.sectorErase) = true ∧
    ok .mainRecordProgrammed (lg fun l => { l with mainQueue := [mr], mainNext := 1024 }) (fun t => t.log.mainNext == 1024) = true ∧
    ok .mainSectorEraseDone (lg fun l => { l with sectorErase := true }) (fun t => t.log.nextErased) = true ∧
    runs .mainSectorEraseDone on = true ∧ runs .islandRecordCopy on = true ∧
    (unlimited Ev.rowErrPassive = false ∧ nextCopy (lg fun l => { l with pageA := pg 1 }).log = some (0, ir)) ∧
    ok .islandRecordCopy (lg fun l => { l with pageA := pg 1 }) (fun t => t.log.islCopied == 1 && t.log.mainQueue.length == 1) = true ∧
    ok .islandRecordCopy (lg fun l => { l with pageA := pg 1, buckets := [(Ev.rowErrPassive, ⟨0, 0, 0, 0⟩)] })
      (fun t => t.log.islCopied == 1 && t.log.mainQueue == [] && t.log.suppr == 1) = true ∧
    (runs (.tokenAdd 7) on = true ∧ ok (.tokenAdd 7) (lg fun l => { l with buckets := [(7, ⟨15, 0, 0, 0⟩)] }) (fun t => (bucketOf t.log 7).tokens == 16) = true) ∧
    ok (.tokenAdd 7) (lg fun l => { l with buckets := [(7, ⟨0, 3, 1, 2⟩)] }) (fun t => (bucketOf t.log 7).tokens == 1 && t.log.mainQueue.length == 1) = true ∧
    ans 0x601 .logRead (req [1, 0]) (on.onWin .tray fun x => { x with active := true, target := 4 }) 2 = true ∧
    ends 0x601 .logRead (req [0x80000002, 1]) (lg fun l => { l with pageA := [(1, ir)] }) 0 (fun ws t => ws == [0x80000001, 1] && (t.win .host).left == 8) = true ∧
    ends 0x601 .logRead (req [1, 7]) on 0 (fun ws _ => ws == [0, 7]) = true := by decide +kernel

end Sys2Proof.Tests
end

