-- ==== Sys2Proof/Proofs/Shared.lean ====
section
/-! SUPPORT. What the operations that several proofs meet leave behind: entries of vectors, bits of words, kept words
of a packet, records, device wakes and the health summary. -/

namespace Sys2Proof.Machine

/-! ## Entries of a vector -/

theorem vget_vmod_self {α : Type} {n : Nat} (v : Vector α n) (f : α → α) (d : α) {i : Nat} (h : i < n) :
    vget (vmod v i f) i d = f (vget v i d) := by
  simp [vget, vmod, Vector.getElem?_eq_getElem h]

theorem vget_vmod_ne {α : Type} {n : Nat} (v : Vector α n) (f : α → α) (d : α) {i j : Nat} (h : j ≠ i) :
    vget (vmod v i f) j d = vget v j d := by
  unfold vget vmod
  split
  · rw [Vector.getElem?_setIfInBounds_ne h.symm]
  · rfl

theorem vget_vmod_beyond {α : Type} {n : Nat} (v : Vector α n) (f : α → α) (d : α) {i : Nat} (h : n ≤ i) (j : Nat) :
    vget (vmod v i f) j d = vget v j d := by
  simp [vmod, Vector.getElem?_eq_none h]

theorem vget_map {α β : Type} {n : Nat} (v : Vector α n) (f : α → β) (d : α) (e : β) {i : Nat} (h : i < n) :
    vget (v.map f) i e = f (vget v i d) := by
  simp [vget, Vector.getElem?_eq_getElem h]

/-! ## Words -/

theorem getLsbD_setBit_self (w : Word) {i : Nat} (h : i < 32) : (setBit w i).getLsbD i = true := by
  simp [setBit, h]

theorem getLsbD_setBit_of_set (w : Word) (i : Nat) {j : Nat} (h : w.getLsbD j = true) :
    (setBit w i).getLsbD j = true := by
  simp [setBit, h]

/-- A command keeps the words that its opcode defines. -/
theorem wd_keptWords {op n : Nat} {v2 : Bool} (hop : op ≠ 0x003) (hi : opInfo op = some (n, v2)) (ws : List Word)
    {k : Nat} (hk : k < n) : wd (keptWords op ws) k = wd ws k := by
  simp [wd, keptWords, hop, hi, hk]

/-! ## Records, wakes and the health summary -/

/-- Raising an event changes the log alone. -/
theorem raise_eq (code : Nat) (args : List (Nat × Nat)) (s : State) :
    raise code args s = { s with log := (raise code args s).log } := by
  unfold raise
  split
  · rfl
  · unfold mainRaise
    split <;> rfl

/-- What an island record leaves in the log depends on the log and the epoch of row time alone. -/
theorem raise_island_log {code : Nat} (hc : evIsland code = true) (args : List (Nat × Nat)) {s t : State}
    (hlog : t.log = s.log) (hepoch : t.row.epoch = s.row.epoch) :
    (raise code args t).log = (raise code args s).log := by
  simp only [raise, if_pos hc, islRaise, State.onLog_log, hlog, hepoch]

/-- A device wake latches its cause and touches no bit of PWR_EVENT. -/
theorem deviceWake_eq (b : Nat) (s : State) : ∃ p, deviceWake b s = { s with pwr := p } ∧ p.event = s.pwr.event := by
  unfold deviceWake
  split
  · exact ⟨_, rfl, rfl⟩
  · exact ⟨_, rfl, rfl⟩

/-- HS_STATE takes the value; a wake cause or a vector may follow. -/
theorem setHealth_eq (w : Word) (s : State) :
    ∃ p b, setHealth w s = { s with health := { s.health with state := w }, pwr := p, port := b } ∧
      p.event = s.pwr.event := by
  unfold setHealth
  dsimp only
  split
  · obtain ⟨p, hp, he⟩ := deviceWake_eq 6 (s.onHealth fun h => { h with state := w })
    rw [hp]
    exact ⟨p, _, rfl, he⟩
  · unfold State.whenB
    split
    · exact ⟨_, _, rfl, rfl⟩
    · exact ⟨_, _, rfl, rfl⟩

end Sys2Proof.Machine
end

