-- ==== Sys2Proof/Proofs/BoardPower.lean ====
section
/-! SUPPORT. The brake, the PMBus alert with its time-out, and the poll (R24, R28, R260, R274). -/

namespace Sys2Proof.Machine

/-! ## The brake -/

theorem exec_pwrBrakeAssert_braked (s : State) (on : s.isl.on = true) (hb : s.pwr.brake = true) :
    exec .pwrBrakeAssert s = .next s := by
  change execPwrBrakeAssert s = _
  rw [execPwrBrakeAssert, live_on _ _ on, if_pos hb]

theorem exec_pwrBrakeAssert_free (s : State) (on : s.isl.on = true) (hb : s.pwr.brake = false) :
    exec .pwrBrakeAssert s = .next { s with pwr := { s.pwr with
      brake := true, event := s.pwr.event ||| 1, brakeCnt := min 0xFFFFFFFF (s.pwr.brakeCnt + 1)
      inForceW := if s.pwr.pstate = .s0 then min 400 s.pwr.inForceW else s.pwr.inForceW
      issue := if s.pwr.pstate = .s0 then min 4 s.pwr.issue else s.pwr.issue } } := by
  change execPwrBrakeAssert s = _
  rw [execPwrBrakeAssert, live_on _ _ on, if_neg (by simp [hb])]
  rfl

theorem exec_pwrBrakeDeassert (s : State) (on : s.isl.on = true) :
    exec .pwrBrakeDeassert s = .next { s with pwr := { s.pwr with brake := false } } :=
  live_on s _ on

/-! ## The PMBus alert -/

theorem exec_railFailure (r : Fin 9) (s : State) (on : s.isl.on = true) :
    exec (.railFailure r) s = .next (railFail r.val s) :=
  live_on s _ on

theorem exec_smbalert (rails : List (Fin 9)) (s : State) (on : s.isl.on = true) :
    exec (.smbalert rails) s =
      .next ((rails.foldl (fun s r => railFail r.val s) s).onPwr fun p => { p with smbAlert := false }) :=
  live_on s _ on

theorem exec_smbalertAraTimeout (rails : List (Fin 9)) (s : State) (on : s.isl.on = true) :
    exec (.smbalertAraTimeout rails) s =
      .next (rails.foldl (fun s r => railFail r.val s) (s.onPwr fun p => { p with smbAlert := true })) :=
  live_on s _ on

/-- A rail that is not up cannot fail. -/
theorem railFail_of_down (r : Nat) (s : State) (h : railUp s r = false) : railFail r s = s := by
  simp [railFail, h]

theorem foldl_railFail_of_down (rails : List (Fin 9)) (s : State) (h : ∀ r ∈ rails, railUp s r.val = false) :
    rails.foldl (fun s r => railFail r.val s) s = s := by
  induction rails with
  | nil => rfl
  | cons r rails ih =>
    rw [List.forall_mem_cons] at h
    rw [List.foldl_cons, railFail_of_down _ _ h.1, ih h.2]

/-! ## The poll -/

/-- The poll stores the readings of every rail that it has one of. -/
theorem exec_pmbusPoll (l : List (Nat × Nat)) (s : State) (on : s.isl.on = true) (hl : l.length = 9) :
    Does (.pmbusPoll l) s fun t =>
      (∀ i : Fin 9, t.pwr.vout[i] = (l.getD i.val (0, 0)).1 ∧ t.pwr.iout[i] = (l.getD i.val (0, 0)).2) ∧
      t = { s with pwr := { s.pwr with vout := t.pwr.vout, iout := t.pwr.iout } } := by
  refine ⟨_, live_on s _ on, fun i => ?_, rfl⟩
  have hi : i.val < l.length := by omega
  simp [State.onPwr, List.getElem?_eq_getElem hi]

end Sys2Proof.Machine

open Sys2Proof Sys2Proof.Machine

/-- Settles O19: each clause is the meaning of its command, and an alert about rails that are down fails none. -/
theorem boardPowerEvents : Obligations.BoardPowerEvents := by
  intro s on
  refine ⟨exec_pwrBrakeAssert_braked s on, exec_pwrBrakeAssert_free s on, exec_pwrBrakeDeassert s on,
    fun rails hdown => ⟨?_, ?_⟩, fun r u hu => ?_, fun r u hu => ?_, fun l => exec_pmbusPoll l s on⟩
  · rw [exec_smbalert _ _ on, foldl_railFail_of_down _ _ hdown]
    rfl
  · have hdown' : ∀ r ∈ rails, railUp (s.onPwr fun p => { p with smbAlert := true }) r.val = false := hdown
    rw [exec_smbalertAraTimeout _ _ on, foldl_railFail_of_down _ _ hdown']
    rfl
  · rw [exec_railFailure r s on] at hu
    rw [exec_smbalert _ _ on, ← Host.Outcome.next.inj hu]
    rfl
  · exact (exec_smbalertAraTimeout [r] s on).trans
      ((exec_railFailure r (s.onPwr fun p => { p with smbAlert := true }) on).symm.trans hu)
end

