-- ==== Sys2Proof/Proofs/TrayBus.lean ====
section
/-! SUPPORT. The cycles of the tray bus: what a read or a write of a half does, and how a waiting cycle ends (R20,
R191 to R193, R249). -/

namespace Sys2Proof.Machine

/-! ## A cycle at the bus -/

/-- The bus takes a cycle: `TB_RST#` is high and no cycle waits. -/
def BusFree (s : State) : Prop := s.port.tbRst = false ∧ busWaits s = false

theorem busFree_iff (s : State) : BusFree s ↔ (busWaits s || s.port.tbRst) = false := by
  simp [BusFree, and_comm]

theorem BusFree.notHeld {s : State} (hf : BusFree s) : (busWaits s || s.port.tbRst) = false := (busFree_iff s).mp hf

theorem held_of_not_busFree {s : State} (hn : ¬ BusFree s) : (busWaits s || s.port.tbRst) = true :=
  Bool.of_not_eq_false (mt (busFree_iff s).mpr hn)

theorem exec_trayLowHalfRead (addr : BitVec 16) (s : State) (on : s.isl.on = true) :
    exec (.trayLowHalfRead addr) s = .next
      (if busWaits s || s.port.tbRst then s
       else if addr.toNat % 2 = 1 then answered [] .err s
       else if addr.toNat < 0x100 then readHalf addr.toNat s
       else onBus (fun b => { b with readWait := some addr.toNat }) s) :=
  live_on s _ on

theorem exec_trayLowHalfWrite (addr data : BitVec 16) (s : State) (on : s.isl.on = true) :
    exec (.trayLowHalfWrite addr data) s = .next
      (if busWaits s || s.port.tbRst then s
       else if addr.toNat % 2 = 1 then answered [] .err s
       else writeCycle addr.toNat data s) :=
  live_on s _ on

/-- While `TB_RST#` is low or a cycle waits, no other cycle is taken. -/
theorem exec_tray_held (addr data : BitVec 16) (s : State) (on : s.isl.on = true) (hn : ¬ BusFree s) :
    exec (.trayLowHalfRead addr) s = .next s ∧ exec (.trayLowHalfWrite addr data) s = .next s := by
  simp [exec_trayLowHalfRead _ _ on, exec_trayLowHalfWrite _ _ _ on, held_of_not_busFree hn]

theorem exec_tray_odd (addr data : BitVec 16) (s : State) (on : s.isl.on = true) (hf : BusFree s)
    (ho : addr.toNat % 2 = 1) :
    exec (.trayLowHalfRead addr) s = .next (answered [] .err s) ∧
    exec (.trayLowHalfWrite addr data) s = .next (answered [] .err s) := by
  simp [exec_trayLowHalfRead _ _ on, exec_trayLowHalfWrite _ _ _ on, hf.notHeld, ho]

theorem exec_trayLowHalfRead_fast (addr : BitVec 16) (s : State) (on : s.isl.on = true) (hf : BusFree s)
    (he : addr.toNat % 2 = 0) (ha : addr.toNat < 0x100) :
    exec (.trayLowHalfRead addr) s = .next (readHalf addr.toNat s) := by
  simp [exec_trayLowHalfRead _ _ on, hf.notHeld, he, ha]

theorem exec_trayLowHalfRead_slow (addr : BitVec 16) (s : State) (on : s.isl.on = true) (hf : BusFree s)
    (he : addr.toNat % 2 = 0) (ha : 0x100 ≤ addr.toNat) :
    exec (.trayLowHalfRead addr) s = .next (onBus (fun b => { b with readWait := some addr.toNat }) s) := by
  simp [exec_trayLowHalfRead _ _ on, hf.notHeld, he, Nat.not_lt.mpr ha]

theorem exec_trayLowHalfWrite_even (addr data : BitVec 16) (s : State) (on : s.isl.on = true) (hf : BusFree s)
    (he : addr.toNat % 2 = 0) :
    exec (.trayLowHalfWrite addr data) s = .next (writeCycle addr.toNat data s) := by
  simp [exec_trayLowHalfWrite _ _ _ on, hf.notHeld, he]

/-! ## Reads of halves (R20, R191) -/

theorem regAddr_of_low {a : Nat} (h : a % 4 = 0) : regAddr a = a := by unfold regAddr; omega

theorem regAddr_of_high {b : Nat} (h : b % 4 = 0) : regAddr (b + 2) = b := by unfold regAddr; omega

theorem readHalf_low (a : Nat) (s : State) (h : a % 4 = 0) :
    readHalf a s = answered [trayReg s a &&& 0xFFFF#32] .ok
      (onBus (fun b => { b with low := sput b.low a (trayReg s a) }) (trayTouch a s)) := by
  simp [readHalf, h, regAddr_of_low h]

theorem readHalf_high_captured (b : Nat) (v : Word) (s : State) (h : b % 4 = 0) (hb : 0x80 ≤ b)
    (hv : sget s.port.bus.low b = some v) :
    readHalf (b + 2) s = answered [v >>> 16] .ok (onBus (fun x => { x with low := sdel x.low b }) s) := by
  have hhigh : ¬ (b + 2) % 4 = 0 := by omega
  simp only [readHalf, if_neg hhigh, regAddr_of_high h, hv, if_neg (Nat.not_lt.mpr hb)]

theorem trayReg_lock (s : State) {a : Nat} (h : a < 0x80) : trayReg s a = lockValue s (a / 4) := by
  simp [trayReg, h]

theorem trayTouch_lock (s : State) {a : Nat} (h : a < 0x80) : trayTouch a s = lockAcquire .tray (a / 4) s := by
  simp [trayTouch, h]

theorem trayReg_map (s : State) {a : Nat} (h1 : 0x1000 ≤ a) (h2 : a < 0x2000) :
    trayReg s a = regMap s .tray (a - 0x1000) := by
  rw [trayReg, if_neg (by omega), if_neg (by omega), if_neg (by omega), if_pos ⟨h1, h2⟩]

theorem trayTouch_map (s : State) {a : Nat} (h1 : 0x1000 ≤ a) (h2 : a < 0x2000) : trayTouch a s = s := by
  rw [trayTouch, if_neg (by omega), if_neg (by omega), if_neg (by omega)]

/-- The GEN block shows nothing of the tray bus. -/
theorem regMap_gen_onBus (f : TrayBus → TrayBus) (s : State) (m : Master) {off : Nat} (h : off < 0x1000) :
    regMap (onBus f s) m off = regMap s m off := by
  simp only [regMap, if_pos h]
  rfl

/-- A lock that a tray read finds free is the tray's. -/
theorem lockOf_lockAcquire_tray (s : State) {n : Nat} (h : n < 32) :
    (lockOf (lockAcquire .tray n s) n).owner = if (lockOf s n).owner = 0 then 3 else (lockOf s n).owner := by
  simp only [lockOf, lockAcquire, onLock, State.onMbx_mbx, vget_vmod_self _ _ _ h]
  by_cases hfree : (vget s.mbx.locks n {}).owner = 0 <;> simp [hfree, Master.id]

theorem exec_trayLowHalfRead_lock (addr : BitVec 16) (s : State) (on : s.isl.on = true) (hf : BusFree s)
    (h4 : addr.toNat % 4 = 0) (ha : addr.toNat < 0x80) :
    Does (.trayLowHalfRead addr) s fun t =>
      t.port.rdata = [BitVec.ofNat 32 (lockOf s (addr.toNat / 4)).owner &&& 0xFFFF#32] ∧ t.port.ended = .ok ∧
      (lockOf t (addr.toNat / 4)).owner =
        (if (lockOf s (addr.toNat / 4)).owner = 0 then 3 else (lockOf s (addr.toNat / 4)).owner) ∧
      t = { s with port := t.port, mbx := { s.mbx with locks := t.mbx.locks } } := by
  refine ⟨_, exec_trayLowHalfRead_fast addr s on hf (by omega) (by omega), ?_⟩
  rw [readHalf_low _ _ h4, trayReg_lock _ ha, trayTouch_lock _ ha]
  exact ⟨rfl, rfl, lockOf_lockAcquire_tray s (by omega), rfl⟩

theorem exec_traySlowReadComplete_read (s : State) (on : s.isl.on = true) {a : Nat} (hr : s.port.bus.readWait = some a)
    (hw : s.port.bus.wbuf = false) :
    exec .traySlowReadComplete s = .next (readHalf a (onBus (fun b => { b with readWait := none }) s)) := by
  change execTraySlowReadComplete s = _
  simp [execTraySlowReadComplete, live_on _ _ on, hr, hw]

theorem exec_traySlowReadComplete_idle (s : State) (on : s.isl.on = true)
    (h : s.port.bus.wbuf = true ∨ s.port.bus.readWait = none) : exec .traySlowReadComplete s = .next s := by
  change execTraySlowReadComplete s = _
  rw [execTraySlowReadComplete, live_on _ _ on]
  rcases h with hw | hr
  · cases hr : s.port.bus.readWait <;> simp [hw]
  · simp [hr]

theorem exec_traySlowReadComplete_low (s : State) (on : s.isl.on = true) {a : Nat} (hw : s.port.bus.wbuf = false)
    (hr : s.port.bus.readWait = some a) (h4 : a % 4 = 0) (h1 : 0x1000 ≤ a) (h2 : a < 0x2000) :
    Does .traySlowReadComplete s fun t =>
      t.port = { s.port with
        bus := { s.port.bus with readWait := none, low := sput s.port.bus.low a (regMap s .tray (a - 0x1000)) }
        rdata := [regMap s .tray (a - 0x1000) &&& 0xFFFF#32], ended := .ok } ∧
      t = { s with port := t.port } := by
  refine ⟨_, exec_traySlowReadComplete_read s on hr hw, ?_⟩
  rw [readHalf_low _ _ h4, trayReg_map _ h1 h2, trayTouch_map _ h1 h2, regMap_gen_onBus _ _ _ (by omega)]
  exact ⟨rfl, rfl⟩

theorem exec_traySlowReadComplete_high (s : State) (on : s.isl.on = true) {b : Nat} {v : Word}
    (hw : s.port.bus.wbuf = false) (hr : s.port.bus.readWait = some (b + 2)) (h4 : b % 4 = 0) (hb : 0x80 ≤ b)
    (hv : sget s.port.bus.low b = some v) :
    Does .traySlowReadComplete s fun t =>
      t.port = { s.port with bus := { s.port.bus with readWait := none, low := sdel s.port.bus.low b }
                             rdata := [v >>> 16], ended := .ok } ∧
      t = { s with port := t.port } := by
  have hv' : sget (onBus (fun b => { b with readWait := none }) s).port.bus.low b = some v := hv
  refine ⟨_, exec_traySlowReadComplete_read s on hr hw, ?_⟩
  rw [readHalf_high_captured b v _ h4 hb hv']
  exact ⟨rfl, rfl⟩

/-! ## Writes of halves (R20, R192) -/

theorem writeHalf_low (a : Nat) (d : BitVec 16) (s : State) (h : a % 4 = 0) :
    writeHalf a d s = onBus (fun b => { b with held := some (a, d) }) (answered [] .ok s) := by
  simp [writeHalf, h]

theorem commitsDoorbell_low (s : State) {a : Nat} (d : BitVec 16) (h : a % 4 = 0) : commitsDoorbell s a d = false := by
  simp [commitsDoorbell, h]

theorem commitsDoorbell_window (s : State) {b : Nat} (d : BitVec 16) (h4 : b % 4 = 0) (h1 : 0x2000 ≤ b)
    (h2 : b < 0x2400) : commitsDoorbell s (b + 2) d = false := by
  have hfast : ¬ b < 0xC0 := by omega
  have hmbx : ¬ 0x3000 ≤ b := by omega
  simp [commitsDoorbell, regAddr_of_high h4, hfast, hmbx]

theorem bringsData_low (s : State) {a : Nat} (h : a % 4 = 0) : bringsData s a = false := by
  simp [bringsData, h]

/-- Behind a full write buffer a write outside the fast block waits. -/
theorem writeCycle_full (a : Nat) (d : BitVec 16) (s : State) (hw : s.port.bus.wbuf = true) (ha : 0x100 ≤ a) :
    writeCycle a d s = onBus (fun b => { b with waiting := some (a, d) }) s := by
  simp [writeCycle, hw, Nat.not_lt.mpr ha]

/-- With the buffer empty it enters it, but for a DOORBELL. -/
theorem writeCycle_empty (a : Nat) (d : BitVec 16) (s : State) (hw : s.port.bus.wbuf = false) (ha : 0x100 ≤ a)
    (hb : commitsDoorbell s a d = false) : writeCycle a d s = roomCycle a d s := by
  simp [writeCycle, hw, hb, Nat.not_lt.mpr ha]

theorem roomCycle_noData (a : Nat) (d : BitVec 16) (s : State) (h : bringsData s a = false) :
    roomCycle a d s = writeHalf a d (onBus (fun b => { b with wbuf := true }) s) := by
  simp [roomCycle, h]

theorem writeCycle_low (a : Nat) (d : BitVec 16) (s : State) (hw : s.port.bus.wbuf = false) (ha : 0x100 ≤ a)
    (h4 : a % 4 = 0) :
    writeCycle a d s = onBus (fun b => { b with held := some (a, d) })
      (answered [] .ok (onBus (fun b => { b with wbuf := true }) s)) := by
  rw [writeCycle_empty a d s hw ha (commitsDoorbell_low s d h4), roomCycle_noData _ _ _ (bringsData_low s h4),
    writeHalf_low _ _ _ h4]

/-! ## Words for the command window (R211, R222) -/

theorem trayPut_window (s : State) {a : Nat} (be : BitVec 4) (w : Word) (h1 : 0x2000 ≤ a) (h2 : a < 0x2400) :
    trayPut a be w s = windowWrite .tray (a - 0x2000) be w s := by
  rw [trayPut, if_neg (by omega), if_neg (by omega), if_neg (by omega), if_pos h2]

/-- The bus with a high half taken that commits its register: the write buffer holds the word, and the low half is held
no longer. -/
def highTaken (s : State) : State :=
  onBus (fun x => { x with wbuf := true, held := none }) (answered [] .ok s)

/-- The high half of a window register whose low half is held commits both. -/
theorem writeHalf_window (b : Nat) (l d : BitVec 16) (s : State) (h4 : b % 4 = 0) (h1 : 0x2000 ≤ b) (h2 : b < 0x2400)
    (hh : s.port.bus.held = some (b, l)) :
    writeHalf (b + 2) d (onBus (fun x => { x with wbuf := true }) s) =
      windowWrite .tray (b - 0x2000) 0xF#4 (l.setWidth 32 ||| d.setWidth 32 <<< 16) (highTaken s) := by
  have hhigh : ¬ (b + 2) % 4 = 0 := by omega
  have hc : committed (onBus (fun x => { x with wbuf := true }) s) (b + 2) d =
      (l.setWidth 32 ||| d.setWidth 32 <<< 16, 0xF#4) := by
    simp [committed, onBus, hh, regAddr_of_high h4, BitVec.or_comm]
  simp only [writeHalf, if_neg hhigh, hc, regAddr_of_high h4, trayPut_window _ _ _ h1 h2]
  simp [highTaken, onBus, State.onPort, answered, hh]

/-- A header of a packet with words to come stands alone in the window. -/
theorem reqWord_header (p : Port) (w : Word) (s : State) (hp : (s.win p).part = []) (hl : hdrLen w ≠ 0) :
    reqWord p w s = s.onWin p fun x => { x with part := x.part ++ [w] } := by
  have hpart : ((s.onWin p fun x => { x with part := x.part ++ [w] }).win p).part = [w] := by simp [hp]
  simp only [reqWord, postIfComplete, hpart, List.length_nil, if_neg hl.symm]

theorem dataIn_more (p : Port) (x : Word) (s : State) (ha : (s.win p).active = true)
    (ho : (s.win p).outbound = false) (hl : 1 < (s.win p).left) :
    dataIn p x s = s.onWin p fun w => { w with inWords := w.inWords ++ [x], left := w.left - 1 } := by
  simp [dataIn, ha, ho, Nat.not_le.mpr hl]

theorem exec_trayLowHalfWrite_header (addr data l : BitVec 16) (s : State) (on : s.isl.on = true) (hf : BusFree s)
    (ha : addr.toNat = 0x2002) (hw : s.port.bus.wbuf = false) (hh : s.port.bus.held = some (0x2000, l))
    (hp : (s.win .tray).part = []) (hl : hdrLen (l.setWidth 32 ||| data.setWidth 32 <<< 16) ≠ 0) :
    Does (.trayLowHalfWrite addr data) s fun t =>
      (t.win .tray).part = [l.setWidth 32 ||| data.setWidth 32 <<< 16] ∧
      t.port.bus = { s.port.bus with wbuf := true, held := none } ∧ t = { s with port := t.port } := by
  have hcycle : writeCycle 0x2002 data s =
      reqWord .tray (l.setWidth 32 ||| data.setWidth 32 <<< 16) (highTaken s) := by
    rw [writeCycle_empty _ _ _ hw (by omega) (commitsDoorbell_window s data (b := 0x2000) rfl (by omega) (by omega)),
      roomCycle_noData _ _ _ rfl, writeHalf_window 0x2000 l data s rfl (by omega) (by omega) hh]
    rfl
  refine ⟨_, exec_trayLowHalfWrite_even addr data s on hf (by omega), ?_⟩
  rw [ha, hcycle, reqWord_header .tray _ (highTaken s) hp hl]
  refine ⟨?_, rfl, rfl⟩
  rw [State.onWin_win_self]
  exact congrArg (· ++ _) hp

section DataWord

variable (addr data l : BitVec 16) (s : State) (on : s.isl.on = true) (hf : BusFree s) (ha : addr.toNat = 0x2006)
  (hw : s.port.bus.wbuf = false)

include on hf ha hw

/-- A word for an open inbound transfer reaches the inbound buffer. -/
theorem exec_trayLowHalfWrite_data (hactive : (s.win .tray).active = true) (hin : (s.win .tray).outbound = false) :
    exec (.trayLowHalfWrite addr data) s = .next
      (if Config.inboundFull s.free then
         onBus (fun b => { b with roomWait := some (addr.toNat, data) }) { s with free := s.free + 1 }
       else writeHalf 0x2006 data (onBus (fun b => { b with wbuf := true }) { s with free := s.free + 1 })) := by
  have hbrings : bringsData s 0x2006 = true := by simp [bringsData, isDataIn, regAddr, hactive, hin]
  rw [exec_trayLowHalfWrite_even addr data s on hf (by omega), ha,
    writeCycle_empty _ _ _ hw (by omega) (commitsDoorbell_window s data (b := 0x2004) rfl (by omega) (by omega)),
    roomCycle, if_pos hbrings]

theorem exec_trayLowHalfWrite_dataFull (hactive : (s.win .tray).active = true) (hin : (s.win .tray).outbound = false)
    (hfull : Config.inboundFull s.free = true) :
    Does (.trayLowHalfWrite addr data) s fun t =>
      t.port = { s.port with bus := { s.port.bus with roomWait := some (addr.toNat, data) } } ∧
      t = { s with port := t.port, free := s.free + 1 } := by
  refine ⟨_, exec_trayLowHalfWrite_data addr data s on hf ha hw hactive hin, ?_⟩
  rw [if_pos hfull]
  exact ⟨rfl, rfl⟩

theorem exec_trayLowHalfWrite_dataRoom (hh : s.port.bus.held = some (0x2004, l))
    (hactive : (s.win .tray).active = true) (hin : (s.win .tray).outbound = false) (hleft : 1 < (s.win .tray).left)
    (hroom : Config.inboundFull s.free = false) :
    Does (.trayLowHalfWrite addr data) s fun t =>
      (t.win .tray).inWords = (s.win .tray).inWords ++ [l.setWidth 32 ||| data.setWidth 32 <<< 16] ∧
      (t.win .tray).left = (s.win .tray).left - 1 ∧
      t.port.bus = { s.port.bus with wbuf := true, held := none } ∧ t.port.ended = .ok ∧
      t = { s with port := t.port, free := s.free + 1 } := by
  let u : State := { s with free := s.free + 1 }
  have hword : writeHalf 0x2006 data (onBus (fun b => { b with wbuf := true }) u) =
      dataIn .tray (l.setWidth 32 ||| data.setWidth 32 <<< 16) (highTaken u) :=
    writeHalf_window 0x2004 l data u rfl (by omega) (by omega) hh
  refine ⟨_, exec_trayLowHalfWrite_data addr data s on hf ha hw hactive hin, ?_⟩
  rw [if_neg (by simp [hroom]), hword, dataIn_more .tray _ (highTaken u) hactive hin hleft]
  exact ⟨rfl, rfl, rfl, rfl, rfl⟩

end DataWord

/-! ## How a waiting cycle ends (R192, R249) -/

theorem exec_trayWriteBufferDrain_idle (s : State) (on : s.isl.on = true) (hw : s.port.bus.waiting = none)
    (hr : s.port.bus.roomWait = none) :
    exec .trayWriteBufferDrain s = .next (onBus (fun b => { b with wbuf := false }) s) := by
  change execTrayWriteBufferDrain s = _
  simp [execTrayWriteBufferDrain, live_on _ _ on, onBus, State.onPort, hw, hr]

/-- A waiting low half enters the buffer that has just become empty. -/
theorem exec_trayWriteBufferDrain_low (s : State) (on : s.isl.on = true) {a : Nat} {d : BitVec 16}
    (hw : s.port.bus.waiting = some (a, d)) (h4 : a % 4 = 0) (ha : 0x100 ≤ a) :
    Does .trayWriteBufferDrain s fun t =>
      t.port.bus = { s.port.bus with wbuf := true, waiting := none, roomWait := none, held := some (a, d) } ∧
      t.port.ended = .ok ∧ t = { s with port := t.port } := by
  refine ⟨writeCycle a d (onBus (fun b => { b with wbuf := false, waiting := none, roomWait := none }) s), ?_, ?_⟩
  · change execTrayWriteBufferDrain s = _
    simp [execTrayWriteBufferDrain, live_on _ _ on, hw]
  · rw [writeCycle_low _ _ _ rfl ha h4]
    exact ⟨rfl, rfl, rfl⟩

theorem isDataIn_iff (a : Nat) : isDataIn a = true ↔ (0x2004 ≤ a ∧ a < 0x2008) ∨ (0x2200 ≤ a ∧ a < 0x2400) := by
  have hreg : a / 4 * 4 = 0x2004 ↔ 0x2004 ≤ a ∧ a < 0x2008 := by omega
  simp [isDataIn, regAddr, hreg]

theorem exec_trayDataWaitTimeout_room (s : State) (on : s.isl.on = true) {x : Nat × BitVec 16}
    (hr : s.port.bus.roomWait = some x) :
    exec .trayDataWaitTimeout s = .next (answered [] .err (onBus (fun b => { b with roomWait := none }) s)) := by
  change execTrayDataWaitTimeout s = _
  simp [execTrayDataWaitTimeout, live_on _ _ on, hr]

theorem exec_trayDataWaitTimeout_buffer (s : State) (on : s.isl.on = true) {b : Nat} {d : BitVec 16}
    (hr : s.port.bus.roomWait = none) (hw : s.port.bus.waiting = some (b, d)) :
    exec .trayDataWaitTimeout s = .next
      (if isDataIn b then answered [] .err (onBus (fun x => { x with waiting := none }) s) else s) := by
  change execTrayDataWaitTimeout s = _
  simp [execTrayDataWaitTimeout, live_on _ _ on, hr, hw]

theorem exec_trayDataWaitTimeout_idle (s : State) (on : s.isl.on = true) (hr : s.port.bus.roomWait = none)
    (hw : s.port.bus.waiting = none) : exec .trayDataWaitTimeout s = .next s := by
  change execTrayDataWaitTimeout s = _
  simp [execTrayDataWaitTimeout, live_on _ _ on, hr, hw]

theorem exec_trayDoorbellAnswer_idle (s : State) (on : s.isl.on = true) (hd : s.port.bus.doorbellWait = none) :
    exec .trayDoorbellAnswer s = .next s := by
  change execTrayDoorbellAnswer s = _
  simp [execTrayDoorbellAnswer, live_on _ _ on, hd]

end Sys2Proof.Machine

open Sys2Proof Sys2Proof.Machine

/-- Settles O13: each clause is one kind of cycle, or one way in which a waiting cycle ends. -/
theorem trayBusCycles : Obligations.TrayBusCycles := by
  intro addr data s on a idle onlyBus
  refine ⟨fun hn => ?held, fun hi hodd => ?odd, fun hi he ha => exec_trayLowHalfRead_slow addr s on hi he ha,
    fun hi h4 ha => exec_trayLowHalfRead_lock addr s on hi h4 ha,
    fun hw hr h4 h1 h2 => exec_traySlowReadComplete_low s on hw hr h4 h1 h2,
    fun b v hw hr h4 hb hv => exec_traySlowReadComplete_high s on hw hr h4 hb hv,
    exec_traySlowReadComplete_idle s on, fun hi h4 ha hw => ?low, fun hi h4 ha hw => ?full,
    fun b l hi hb h4 h1 h2 hw hh hp hl => ?header, fun l hi ha hw hh hactive hin hleft =>
      ⟨fun hroom => exec_trayLowHalfWrite_dataRoom addr data l s on hi ha hw hh hactive hin hleft hroom,
       fun hfull => exec_trayLowHalfWrite_dataFull addr data s on hi ha hw hactive hin hfull⟩,
    exec_trayWriteBufferDrain_idle s on, fun hw h4 ha => exec_trayWriteBufferDrain_low s on hw h4 ha,
    fun x hr => exec_trayDataWaitTimeout_room s on hr, fun b d hr hw => ?timeout,
    exec_trayDataWaitTimeout_idle s on, exec_trayDoorbellAnswer_idle s on⟩
  case held => exact exec_tray_held addr data s on hn
  case odd => exact exec_tray_odd addr data s on hi hodd
  case low =>
    refine ⟨_, exec_trayLowHalfWrite_even addr data s on hi (by omega), ?_⟩
    rw [writeCycle_low _ _ _ hw ha h4]
    exact ⟨rfl, rfl, rfl⟩
  case full =>
    rw [exec_trayLowHalfWrite_even addr data s on hi (by omega), writeCycle_full _ _ _ hw ha]
    rfl
  case header =>
    obtain rfl : b = 0x2000 := by omega
    exact exec_trayLowHalfWrite_header addr data l s on hi (by omega) hw hh hp hl
  case timeout =>
    have hend := exec_trayDataWaitTimeout_buffer s on hr hw
    split
    · next hdata => rw [hend, if_pos ((isDataIn_iff b).mpr hdata)]; rfl
    · next hdata => rw [hend, if_neg (mt (isDataIn_iff b).mp hdata)]
end

