-- ==== Sys2Proof/Proofs/ForcedValves.lean ====
section
/-! SUPPORT. What the forced fully-open command does to the valves, and its withdrawal (R354, R355). -/

namespace Sys2Proof.Machine

/-- Of a state only the valve channels change, and no forced channel stops being forced. -/
def Drives (s t : State) : Prop :=
  ∃ c, t = { s with vlv := { s.vlv with ch := c } } ∧
    ∀ k, (vget s.vlv.ch k {}).forced = true → (vget c k {}).forced = true

theorem Drives.refl (s : State) : Drives s s := ⟨_, rfl, fun _ h => h⟩

theorem Drives.trans {s t u : State} (h1 : Drives s t) (h2 : Drives t u) : Drives s u := by
  obtain ⟨c, rfl, hc⟩ := h1
  obtain ⟨d, rfl, hd⟩ := h2
  exact ⟨d, rfl, fun k h => hd k (hc k h)⟩

theorem Drives.forced {s t : State} (h : Drives s t) {k : Nat} (hk : (valveOf s k).forced = true) :
    (valveOf t k).forced = true := by
  obtain ⟨c, rfl, hc⟩ := h
  exact hc k hk

theorem onValve_drives (k : Nat) (f : Valve → Valve) (s : State) (hf : ∀ x, x.forced = true → (f x).forced = true) :
    Drives s (onValve k f s) := by
  refine ⟨vmod s.vlv.ch k f, rfl, fun j hj => ?_⟩
  by_cases hjk : j = k
  · subst hjk
    by_cases hin : j < 20
    · rw [vget_vmod_self _ _ _ hin]
      exact hf _ hj
    · rwa [vget_vmod_beyond _ _ _ (Nat.not_lt.mp hin)]
  · rwa [vget_vmod_ne _ _ _ hjk]

theorem startProfile_drives (k : Nat) (s : State) : Drives s (startProfile k s) := by
  unfold startProfile
  split
  · exact onValve_drives k _ s fun _ h => h
  · split
    · exact onValve_drives k _ s fun _ h => h
    · split
      · exact onValve_drives k _ s fun _ h => h
      · exact onValve_drives k _ s fun _ h => h

theorem valveCommand_drives (k : Nat) (e : Option Nat) (s : State) : Drives s (valveCommand k e s) := by
  unfold valveCommand
  split
  · exact Drives.refl s
  · split
    case h_3 =>
      exact (onValve_drives k (fun c => { c with endAt := e, pend := none }) s fun _ h => h).trans
        (startProfile_drives k _)
    all_goals exact onValve_drives k _ s fun _ h => h

/-- The forced command on a channel marks it and drives it from there. -/
theorem mark_drives_forceChannel (s : State) (k : Nat) :
    Drives (onValve k (fun c => { c with forced := true }) s) (forceChannel s k) := by
  unfold forceChannel
  split
  · exact onValve_drives k _ _ fun _ h => h
  · exact valveCommand_drives k none _

theorem forceChannel_drives (s : State) (k : Nat) : Drives s (forceChannel s k) :=
  (onValve_drives k _ s fun _ _ => rfl).trans (mark_drives_forceChannel s k)

theorem forceChannel_forced (s : State) {k : Nat} (hk : k < 20) : (valveOf (forceChannel s k) k).forced = true := by
  refine (mark_drives_forceChannel s k).forced ?_
  simp [valveOf, onValve, vget_vmod_self _ _ _ hk]

theorem foldl_forceChannel_drives (l : List Nat) (s : State) : Drives s (l.foldl forceChannel s) := by
  induction l generalizing s with
  | nil => exact Drives.refl s
  | cons k l ih => exact (forceChannel_drives s k).trans (ih _)

theorem foldl_forceChannel_forced (l : List Nat) (s : State) {k : Nat} (hk : k < 20) (hl : k ∈ l) :
    (valveOf (l.foldl forceChannel s) k).forced = true := by
  induction l generalizing s with
  | nil => cases hl
  | cons j l ih =>
    rcases List.mem_cons.mp hl with rfl | hl
    · exact (foldl_forceChannel_drives l _).forced (forceChannel_forced s hk)
    · exact ih _ hl

/-- FORCED_FULLY_OPEN forces every channel, returns every pin, and leaves the rest. -/
theorem forceOpenAll_eq (s : State) :
    ∃ c, forceOpenAll s = { s with vlv := { s.vlv with pinFunc := Vector.replicate 12 0, ch := c } } ∧
      ∀ k, k < 20 → (vget c k {}).forced = true := by
  let s0 := s.onVlv fun v => { v with pinFunc := Vector.replicate 12 0 }
  obtain ⟨c, hc, _⟩ := foldl_forceChannel_drives (List.range 20) s0
  refine ⟨c, hc, fun k hk => ?_⟩
  have hforced := foldl_forceChannel_forced (List.range 20) s0 hk (List.mem_range.mpr hk)
  rwa [hc] at hforced

/-- With no cause left the forced command is withdrawn from every channel. -/
theorem withdrawIfFree_free (s : State) (h : forcedStands s = false) :
    withdrawIfFree s = s.onVlv fun v => { v with ch := v.ch.map fun c => { c with forced := false } } := by
  simp [withdrawIfFree, h]

end Sys2Proof.Machine
end

