-- ==== Sys2Proof/Proofs/RowMessages.lean ====
section
/-! SUPPORT. What the messages that hardware and the stewardship queue leave of the row bus (R404, R407, R414,
R436). -/

namespace Sys2Proof.Machine

/-- Of a state only message objects of firmware change, and what the stewardship keeps. -/
def SendsFirmware (s t : State) : Prop :=
  ∃ x y w, t = { s with row := { s.row with a := { s.row.a with objs := x }, b := { s.row.b with objs := y } }
                        stew := w } ∧
    ∀ m, m < 4 → vget x m {} = vget s.row.a.objs m {} ∧ vget y m {} = vget s.row.b.objs m {}

theorem SendsFirmware.refl (s : State) : SendsFirmware s s := ⟨_, _, _, rfl, fun _ _ => ⟨rfl, rfl⟩⟩

theorem SendsFirmware.trans {s t u : State} (h1 : SendsFirmware s t) (h2 : SendsFirmware t u) : SendsFirmware s u := by
  obtain ⟨x, y, w, rfl, hs⟩ := h1
  obtain ⟨x', y', w', rfl, ht⟩ := h2
  exact ⟨x', y', w', rfl, fun m hm => ⟨(ht m hm).1.trans (hs m hm).1, (ht m hm).2.trans (hs m hm).2⟩⟩

theorem onObj_sendsFirmware (b : Bool) {m : Nat} (f : Obj → Obj) (s : State) (hm : 4 ≤ m) :
    SendsFirmware s (onObj b m f s) := by
  have hother : ∀ {n} (v : Vector Obj n) j, j < 4 → vget (vmod v m f) j {} = vget v j {} :=
    fun v j hj => vget_vmod_ne v f {} (by omega)
  cases b
  · exact ⟨_, _, _, rfl, fun j hj => ⟨hother _ j hj, rfl⟩⟩
  · exact ⟨_, _, _, rfl, fun j hj => ⟨rfl, hother _ j hj⟩⟩

theorem onStewCh_sendsFirmware (b : Bool) (f : StewCh → StewCh) (s : State) : SendsFirmware s (onStewCh b f s) :=
  ⟨_, _, _, rfl, fun _ _ => ⟨rfl, rfl⟩⟩

/-- Firmware finds its message objects behind those of hardware. -/
theorem le_of_find?_firmwareObj {p : Nat → Bool} {m : Nat} (h : ((List.range 128).drop 4).find? p = some m) :
    4 ≤ m := by
  have hmem : m ∈ (List.range 128).drop 4 := List.mem_of_find?_eq_some h
  rw [show (List.range 128).drop 4 = List.range' 4 124 from rfl, List.mem_range'_1] at hmem
  exact hmem.1

theorem ensureObj_sendsFirmware (b : Bool) (ident : Nat) (send : Bool) (dlc : Nat) (seqPos : Option Nat) (period : Nat)
    (s : State) : SendsFirmware s (ensureObj b ident send dlc seqPos period s).2 ∧
      ∀ m, (ensureObj b ident send dlc seqPos period s).1 = some m → 4 ≤ m := by
  unfold ensureObj
  dsimp only
  split
  · next m hm => exact ⟨SendsFirmware.refl s, fun j hj => by cases hj; exact le_of_find?_firmwareObj hm⟩
  · split
    · exact ⟨SendsFirmware.refl s, fun j hj => by cases hj⟩
    · next m hm =>
      have hle := le_of_find?_firmwareObj hm
      exact ⟨onObj_sendsFirmware b _ s hle, fun j hj => by cases hj; exact hle⟩

theorem sendMsg_sendsFirmware (b : Bool) (ident dlc seqPos : Nat) (d : List Byte) (s : State) :
    SendsFirmware s (sendMsg b ident dlc seqPos d s) := by
  obtain ⟨hsends, hle⟩ := ensureObj_sendsFirmware b ident true dlc (some seqPos) 0 s
  unfold sendMsg
  split
  · next m t he =>
    rw [he] at hsends hle
    exact hsends.trans (onObj_sendsFirmware b _ t (hle m rfl))
  · next t he =>
    rwa [he] at hsends

theorem selfDeclare_sendsFirmware (b : Bool) (s : State) : SendsFirmware s (selfDeclare b s) := by
  unfold selfDeclare
  split
  · exact (sendMsg_sendsFirmware b _ _ _ _ s).trans (onStewCh_sendsFirmware b _ _)
  · exact SendsFirmware.refl s

/-- FAILSAFE is queued on A, and on B while its transceiver is on. -/
theorem queueFailsafe_eq (forced : Bool) (s : State) :
    ∃ y, queueFailsafe forced s = { s with row := { s.row with
      a := { s.row.a with
        objs := vmod s.row.a.objs 1 fun o => queueOne { o with data := padTo 64 (failsafeBytes s false forced) } }
      b := { s.row.b with objs := y } } } := by
  unfold queueFailsafe State.whenB
  dsimp only
  split
  · exact ⟨_, rfl⟩
  · exact ⟨_, rfl⟩

/-- A send object that is not on the bus is pending once it is queued. -/
theorem queueOne_pending {o : Obj} (hv : o.valid = true) (hs : o.send = true) (ht : o.tx ≠ .onBus) :
    (queueOne o).tx = .pending := by
  by_cases hp : o.tx = .pending
  · simp [queueOne, hv, hs, hp]
  · simp [queueOne, hv, hs, ht, hp]

end Sys2Proof.Machine
end

