-- ==== Sys2Proof/Proofs/Toecap.lean ====
section
/-! SUPPORT. Toecap: its service and expiry, the release of what an expiry or a rail failure forces, the restart of
the island processor, and TOECAP_SET (R25, R310, R311, R316, R355, R414, R499). -/

namespace Sys2Proof.Machine

/-! ## The parts of an expiry -/

/-- What an expiry, and a failed island boot, do to the power manager (R25, R28, R486). -/
theorem degrade_eq (s : State) :
    degrade s = { s with
      isl := { s.isl with coolDegraded := true }
      pwr := { s.pwr with
        event := s.pwr.event ||| 2
        inForceW := if mpRuns s = true then s.pwr.inForceW else min 400 s.pwr.inForceW
        issue := if mpRuns s = true then s.pwr.issue else min 4 s.pwr.issue } } := by
  by_cases h : mpRuns s = true
  · simp [degrade, h, pwrEvent, setBit, State.onPwr, State.onIsl]
  · simp [degrade, h, pwrEvent, setBit, State.onPwr, State.onIsl]

/-- Aborting a valve test returns its channels and writes WELT_TEST and the record. -/
theorem abortVTest_eq (s : State) :
    ∃ v w l, abortVTest s = { s with vlv := v, welt := w, log := l } ∧ (s.welt.test = none → l = s.log) := by
  unfold abortVTest endVTest
  cases h : s.welt.test with
  | none => exact ⟨_, _, _, rfl, fun _ => rfl⟩
  | some t =>
    dsimp only
    rw [raise_eq]
    exact ⟨_, _, _, rfl, fun hn => by cases hn⟩

/-- The safe outputs of an expiry: the valve test ends, and every channel is forced open. -/
def safeOutputs (s : State) : State := forceOpenAll ((abortVTest s).onVlv fun v => { v with forcedToecap := true })

theorem safeOutputs_eq (s : State) :
    ∃ v w l, safeOutputs s = { s with vlv := v, welt := w, log := l } ∧ v.forcedToecap = true ∧
      v.pinFunc = Vector.replicate 12 0 ∧ (∀ k, k < 20 → (vget v.ch k {}).forced = true) ∧
      (s.welt.test = none → l = s.log) := by
  obtain ⟨v, w, l, habort, hlog⟩ := abortVTest_eq s
  obtain ⟨c, hforce, hc⟩ := forceOpenAll_eq ((abortVTest s).onVlv fun v => { v with forcedToecap := true })
  exact ⟨{ v with forcedToecap := true, pinFunc := Vector.replicate 12 0, ch := c }, w, l,
    hforce.trans (by rw [habort]; rfl), rfl, rfl, hc, hlog⟩

/-- What an expiry shows: the degraded cooling and its bits of HS_STATE. -/
def showExpiry (s : State) : State := healthBit 5 (healthBit 6 (degrade s))

theorem showExpiry_eq (s : State) :
    ∃ p b h, showExpiry s = { s with isl := { s.isl with coolDegraded := true }, pwr := p, port := b, health := h } ∧
      p.event.getLsbD 1 = true ∧ h.state.getLsbD 5 = true ∧ h.state.getLsbD 6 = true := by
  let w6 := setBit s.health.state 6
  obtain ⟨p, b, h6, he6⟩ := setHealth_eq w6 (degrade s)
  have hd : healthBit 6 (degrade s) = setHealth w6 (degrade s) := by rw [degrade_eq]; rfl
  obtain ⟨q, c, h5, he5⟩ := setHealth_eq (setBit w6 5) (setHealth w6 (degrade s))
  have hs : showExpiry s = setHealth (setBit w6 5) (setHealth w6 (degrade s)) := by
    rw [showExpiry, hd, healthBit, h6]
  refine ⟨q, c, { s.health with state := setBit w6 5 }, ?_, ?_, getLsbD_setBit_self _ (by omega),
    getLsbD_setBit_of_set _ _ (getLsbD_setBit_self _ (by omega))⟩
  · rw [hs, h5, h6, degrade_eq]
  · rw [he5, h6, he6, degrade_eq]
    simp

/-- What an expiry says on the row bus: FAILSAFE with its counters from 0, and the steward's own declaration. -/
def announceExpiry (s : State) : State :=
  selfDeclare true (selfDeclare false (queueFailsafe true (onRowCh true (fun c => { c with failCount := 0 })
    (onRowCh false (fun c => { c with failCount := 0 }) s))))

theorem announceExpiry_eq (s : State) :
    ∃ x y w, announceExpiry s = { s with
        row := { s.row with
          a := { s.row.a with failCount := 0, objs := x }
          b := { s.row.b with failCount := 0, objs := y } }
        stew := w } ∧
      ((objOf s false 1).valid = true → (objOf s false 1).send = true → (objOf s false 1).tx ≠ .onBus →
        (vget x 1 {}).tx = .pending) := by
  let s0 := onRowCh true (fun c => { c with failCount := 0 }) (onRowCh false (fun c => { c with failCount := 0 }) s)
  obtain ⟨y0, hqueue⟩ := queueFailsafe_eq true s0
  obtain ⟨x, y, w, hsent, hkeep⟩ :=
    (selfDeclare_sendsFirmware false (queueFailsafe true s0)).trans (selfDeclare_sendsFirmware true _)
  refine ⟨x, y, w, hsent.trans (by rw [hqueue]; rfl), fun hv hs ht => ?_⟩
  rw [(hkeep 1 (by omega)).1, hqueue]
  dsimp only
  rw [vget_vmod_self _ _ _ (by omega)]
  exact queueOne_pending hv hs ht

/-- After its record an expiry ends a trial, or counts toward a change of banks. -/
def concludeExpiry (trial : Bool) (s : State) : State :=
  if trial then (rollback 2 s).onIsl trialOver else bankAfterExpiries s

theorem trialOver_eq (i : IslBlk) : ∃ u m, trialOver i = { i with updateArm := u, timeoutMs := m } := by
  unfold trialOver
  split
  · exact ⟨_, _, rfl⟩
  · exact ⟨_, _, rfl⟩

theorem bankAfterExpiries_eq (s : State) : ∃ l c, bankAfterExpiries s = { s with log := l, sec := c } := by
  unfold bankAfterExpiries
  dsimp only
  generalize (if s.sec.isl.cur = true then s.sec.isl.a else s.sec.isl.b) = other
  split
  · rw [raise_eq]
    exact ⟨_, _, rfl⟩
  · exact ⟨_, _, rfl⟩

theorem concludeExpiry_eq (trial : Bool) (s : State) :
    ∃ u m l c, concludeExpiry trial s =
      { s with isl := { s.isl with updateArm := u, timeoutMs := m }, log := l, sec := c } := by
  unfold concludeExpiry
  split
  · obtain ⟨u, m, hi⟩ := trialOver_eq s.isl
    refine ⟨u, m, (rollback 2 s).log, (rollback 2 s).sec, ?_⟩
    rw [rollback, raise_eq, ← hi]
    rfl
  · obtain ⟨l, c, hbank⟩ := bankAfterExpiries_eq s
    exact ⟨_, _, l, c, hbank⟩

/-- Fewer than three expiries change no bank. -/
theorem concludeExpiry_of_few (s : State) (h : s.isl.expiries.length < 3) : concludeExpiry false s = s := by
  have hfew := fun p => Nat.lt_of_le_of_lt (List.length_filter_le p s.isl.expiries) h
  simp only [concludeExpiry, Bool.false_eq_true, if_false, bankAfterExpiries]
  rw [if_neg fun hthree => absurd hthree.1 (Nat.not_le.mpr (hfew _))]

/-! ## The expiry -/

/-- The island block of an expiry: forced, held until the processor's release, and entered in the persistent words. -/
def expiredIsl (s : State) (i : IslBlk) : IslBlk :=
  { i with forced := true, toecapExpired := true, toecapHeld := true
           expiries := (s.log.powerOn.toNat, s.log.elapsed, bn s.sec.isl.cur) :: i.expiries }

/-- An expiry, before its record. -/
def expirySignals (s : State) : State := announceExpiry (showExpiry ((safeOutputs s).onIsl (expiredIsl s)))

/-- What the signals of an expiry leave. -/
theorem expirySignals_eq (s : State) :
    ∃ v p b h x y w k l, expirySignals s = { s with
        isl := { expiredIsl s s.isl with coolDegraded := true }
        row := { s.row with
          a := { s.row.a with failCount := 0, objs := x }
          b := { s.row.b with failCount := 0, objs := y } }
        vlv := v, pwr := p, port := b, health := h, stew := w, welt := k, log := l } ∧
      (v.forcedToecap = true ∧ v.pinFunc = Vector.replicate 12 0 ∧ ∀ k, k < 20 → (vget v.ch k {}).forced = true) ∧
      (p.event.getLsbD 1 = true ∧ h.state.getLsbD 5 = true ∧ h.state.getLsbD 6 = true) ∧
      ((objOf s false 1).valid = true → (objOf s false 1).send = true → (objOf s false 1).tx ≠ .onBus →
        (vget x 1 {}).tx = .pending) ∧
      (s.welt.test = none → l = s.log) := by
  obtain ⟨v, k, l, hsafe, hforced, hpins, hvalves, hlog⟩ := safeOutputs_eq s
  obtain ⟨p, b, h, hshow, hbits⟩ := showExpiry_eq ((safeOutputs s).onIsl (expiredIsl s))
  obtain ⟨x, y, w, hsay, hpending⟩ := announceExpiry_eq (showExpiry ((safeOutputs s).onIsl (expiredIsl s)))
  rw [hshow, hsafe] at hpending
  refine ⟨v, p, b, h, x, y, w, k, l, ?_, ⟨hforced, hpins, hvalves⟩, hbits, hpending, hlog⟩
  rw [expirySignals, hsay, hshow, hsafe]
  rfl

theorem expire_held (s : State) (h : s.isl.toecapHeld = true) : expire s = s := by simp [expire, h]

theorem expire_running (s : State) (h : s.isl.toecapHeld = false) :
    expire s = concludeExpiry s.sec.isl.trial
      (raise Ev.toecapExpiry [(1, bn s.sec.isl.cur), (4, s.isl.tick.toNat)] (expirySignals s)) := by
  rw [expire, if_neg (by simp [h])]
  rfl

theorem exec_toecapExpiry (s : State) (on : s.isl.on = true) : exec .toecapExpiry s = .next (expire s) := live_on s _ on

theorem exec_toecapExpiry_running (s : State) (on : s.isl.on = true) (h : s.isl.toecapHeld = false) :
    Does .toecapExpiry s fun t =>
      t.isl.forced = true ∧ t.isl.coolDegraded = true ∧ t.isl.toecapExpired = true ∧ t.isl.toecapHeld = true ∧
      t.isl.expiries = (s.log.powerOn.toNat, s.log.elapsed, bn s.sec.isl.cur) :: s.isl.expiries ∧
      t.vlv.forcedToecap = true ∧ t.vlv.pinFunc = Vector.replicate 12 0 ∧
      (∀ k, k < 20 → (valveOf t k).forced = true) ∧ t.pwr.event.getLsbD 1 = true ∧
      t.health.state.getLsbD 5 = true ∧ t.health.state.getLsbD 6 = true ∧
      t.row.a.failCount = 0 ∧ t.row.b.failCount = 0 ∧
      ((objOf s false 1).valid = true → (objOf s false 1).send = true → (objOf s false 1).tx ≠ .onBus →
        (objOf t false 1).tx = .pending) ∧
      (s.welt.test = none → s.sec.isl.trial = false → s.isl.expiries.length ≤ 1 →
        Logged Ev.toecapExpiry [(1, bn s.sec.isl.cur), (4, s.isl.tick.toNat)] s t ∧ t.sec = s.sec) ∧
      t = { s with isl := t.isl, vlv := t.vlv, pwr := t.pwr, health := t.health, port := t.port, row := t.row
                   stew := t.stew, welt := t.welt, log := t.log, sec := t.sec } := by
  obtain ⟨v, p, b, g, x, y, w, k, l, hsig, ⟨hforced, hpins, hvalves⟩, ⟨hevent, h5, h6⟩, hpending, hlog⟩ :=
    expirySignals_eq s
  let logged := raise Ev.toecapExpiry [(1, bn s.sec.isl.cur), (4, s.isl.tick.toNat)] (expirySignals s)
  have hrun : expire s = concludeExpiry s.sec.isl.trial logged := expire_running s h
  have hraise : logged = { expirySignals s with log := logged.log } := raise_eq _ _ _
  have hfew : s.welt.test = none → s.sec.isl.trial = false → s.isl.expiries.length ≤ 1 →
      Logged Ev.toecapExpiry [(1, bn s.sec.isl.cur), (4, s.isl.tick.toNat)] s (expire s) ∧ (expire s).sec = s.sec := by
    intro htest htrial hlen
    have hcount : logged.isl.expiries.length < 3 := by
      rw [hraise, hsig]
      exact Nat.succ_lt_succ (Nat.lt_succ_of_le hlen)
    rw [hrun, htrial, concludeExpiry_of_few logged hcount]
    refine ⟨raise_island_log (by decide) _ ?_ ?_, ?_⟩
    · rw [hsig]; exact hlog htest
    · rw [hsig]
    · rw [hraise, hsig]
  obtain ⟨u, m, l', c, hend⟩ := concludeExpiry_eq s.sec.isl.trial logged
  refine ⟨expire s, exec_toecapExpiry s on, ?_⟩
  rw [hrun, hend, hraise, hsig] at hfew ⊢
  exact ⟨rfl, rfl, rfl, rfl, rfl, hforced, hpins, hvalves, hevent, h5, h6, rfl, rfl, hpending, hfew, rfl⟩

/-! ## The service (R310) -/

theorem exec_toecapService (m : Master) (w : Word) (s : State) (on : s.isl.on = true) :
    exec (.toecapService m w) s = .next (if masterReach s m then toecapWrite m w s else s) :=
  live_on s _ on

theorem exec_toecapRelease (m : Master) (s : State) (on : s.isl.on = true) :
    exec (.toecapRelease m) s = .next (if masterReach s m then toecapRelease m s else s) :=
  live_on s _ on

/-- Neither a write of another master nor one of a Cobbler held in reset does anything. -/
theorem exec_toecap_ignored (m : Master) (w : Word) (s : State) (on : s.isl.on = true)
    (h : masterReach s m = false ∨ m ≠ .cobbler) :
    exec (.toecapService m w) s = .next s ∧ exec (.toecapRelease m) s = .next s := by
  rw [exec_toecapService _ _ _ on, exec_toecapRelease _ _ on]
  rcases h with hreach | hm
  · simp [hreach]
  · simp [toecapWrite, toecapRelease, hm]

theorem exec_toecapService_key (s : State) (on : s.isl.on = true) :
    exec (.toecapService .cobbler 0x00007E1A#32) s = .next s := by
  simp [exec_toecapService _ _ _ on, toecapWrite]

theorem exec_toecapService_other (w : Word) (s : State) (on : s.isl.on = true) (hreach : masterReach s .cobbler = true)
    (hw : w ≠ 0x00007E1A#32) : exec (.toecapService .cobbler w) s = exec .toecapExpiry s := by
  simp [exec_toecapService _ _ _ on, exec_toecapExpiry _ on, toecapWrite, hreach, hw]

/-! ## The release (R311, R335, R355) -/

theorem exec_toecapRelease_cobbler (s : State) (on : s.isl.on = true) (hreach : masterReach s .cobbler = true) :
    exec (.toecapRelease .cobbler) s = .next (releaseRail (releaseToecap s)) := by
  simp [exec_toecapRelease _ _ on, toecapRelease, hreach]

/-- The forced state of an expiry stays while the processor is held and for a second after its restart. -/
theorem releaseToecap_early (s : State)
    (h : s.isl.forced = false ∨ s.isl.toecapHeld = true ∨ s.log.elapsed < s.isl.restartAt + 1000000) :
    releaseToecap s = s := by
  rcases h with hf | hh | ht
  · simp [releaseToecap, hf]
  · simp [releaseToecap, hh]
  · simp [releaseToecap, Nat.not_le.mpr ht]

theorem releaseRail_of_not_forced (s : State) (h : s.vlv.forcedRail = false) : releaseRail s = s := by
  unfold releaseRail
  cases s.vlv.railS3 <;> simp [h]

/-- The state with the forced state of an expiry over and no other cause of the forced command. -/
def forcedOver (s : State) : State :=
  { s with isl := { s.isl with forced := false, coolDegraded := false }
           vlv := { s.vlv with forcedToecap := false, ch := s.vlv.ch.map fun c => { c with forced := false } }
           ctl := { s.ctl with slots := s.ctl.slots.map fun x => { x with plausHold := true } } }

theorem releaseToecap_due (s : State) (hr : s.vlv.forcedRail = false) (hp : s.vlv.forcedPower = false)
    (hf : s.isl.forced = true) (hh : s.isl.toecapHeld = false) (ht : s.isl.restartAt + 1000000 ≤ s.log.elapsed) :
    releaseToecap s = queueFailsafe false (forcedOver s) := by
  simp [releaseToecap, hf, hh, ht, withdrawIfFree, forcedStands, releaseWindow, State.onIsl, State.onVlv, State.onCtl,
    hr, hp, forcedOver]

theorem exec_toecapRelease_due (s : State) (on : s.isl.on = true) (hreach : masterReach s .cobbler = true)
    (hr : s.vlv.forcedRail = false) (hp : s.vlv.forcedPower = false) (hf : s.isl.forced = true)
    (hh : s.isl.toecapHeld = false) (ht : s.isl.restartAt + 1000000 ≤ s.log.elapsed) :
    Does (.toecapRelease .cobbler) s fun t =>
      t.isl = { s.isl with forced := false, coolDegraded := false } ∧ t.vlv.forcedToecap = false ∧
      (∀ k, k < 20 → valveOf t k = { valveOf s k with forced := false }) ∧
      (∀ i, i < 32 → slotOf t i = { slotOf s i with plausHold := true }) ∧
      objOf t false 1 = queueOne { objOf s false 1 with data := padTo 64 (failsafeBytes s false false) } ∧
      t = { s with isl := t.isl, vlv := { s.vlv with forcedToecap := false, ch := t.vlv.ch }
                   ctl := { s.ctl with slots := t.ctl.slots }, row := t.row } := by
  obtain ⟨y, hqueue⟩ := queueFailsafe_eq false (forcedOver s)
  have hrelease := (releaseToecap_due s hr hp hf hh ht).trans hqueue
  have hrail : (releaseToecap s).vlv.forcedRail = false := by rw [hrelease]; exact hr
  refine ⟨_, exec_toecapRelease_cobbler s on hreach, ?_⟩
  rw [releaseRail_of_not_forced _ hrail, hrelease]
  exact ⟨rfl, rfl, fun k hk => vget_map _ _ _ _ hk, fun i hi => vget_map _ _ _ _ hi,
    vget_vmod_self _ _ _ (by omega), rfl⟩

/-- The forced command of a rail failure ends after 10 s in S3. -/
theorem exec_toecapRelease_rail (s : State) (on : s.isl.on = true) {since : Nat}
    (hreach : masterReach s .cobbler = true) (hf : s.isl.forced = false) (hr : s.vlv.forcedRail = true)
    (hs : s.vlv.railS3 = some since)
    (ht : since + 10000000 ≤ s.log.elapsed) (hp : s.vlv.forcedPower = false) (hc : s.vlv.forcedToecap = false) :
    Does (.toecapRelease .cobbler) s fun t =>
      (∀ k, k < 20 → valveOf t k = { valveOf s k with forced := false }) ∧
      t = { s with vlv := { s.vlv with forcedRail := false, railS3 := none, ch := t.vlv.ch } } := by
  refine ⟨_, exec_toecapRelease_cobbler s on hreach, ?_⟩
  have hrelease : releaseRail s = withdrawIfFree (s.onVlv fun v => { v with forcedRail := false, railS3 := none }) := by
    simp [releaseRail, hs, hr, ht]
  rw [releaseToecap_early s (Or.inl hf), hrelease, withdrawIfFree_free _ (by simp [forcedStands, hp, hc])]
  exact ⟨fun k hk => vget_map _ _ _ _ hk, rfl⟩

/-! ## The restart of the island processor (R499) -/

theorem exec_islandProcessorRelease_running (s : State) (on : s.isl.on = true) (h : s.isl.procReset = false) :
    exec .islandProcessorRelease s = .next s := by
  change execIslandProcessorRelease s = _
  simp [execIslandProcessorRelease, live_on _ _ on, h]

/-- The state in which the boot ROM chooses a bank: Toecap counts again, and the firmware starts now. -/
def islReleased (s : State) : State :=
  s.onIsl fun i => { i with procReset := false, toecapHeld := false, restartAt := s.log.elapsed }

theorem exec_islandProcessorRelease_held (s : State) (on : s.isl.on = true) (h : s.isl.procReset = true) :
    exec .islandProcessorRelease s = .next (bootIsland (islReleased s)) := by
  change execIslandProcessorRelease s = _
  simp [execIslandProcessorRelease, live_on _ _ on, h, islReleased]

theorem bootBank_islReleased (s : State) (t : Nat) : bootBank (islReleased s) t = bootBank s t := rfl

theorem bootIsland_current (s : State) (h : bootBank s 2 = some s.sec.isl.cur) :
    bootIsland s = s.onIsl fun i => { i with fwRun := true, bootFail := false } := by
  simp [bootIsland, h, State.whenB]

theorem bootIsland_other (s : State) (h : bootBank s 2 = some (!s.sec.isl.cur)) :
    bootIsland s = (raise Ev.islBootFallback []
      (s.onSec fun c => { c with isl := { s.sec.isl with cur := !s.sec.isl.cur } })).onIsl
        fun i => { i with fwRun := true, bootFail := false } := by
  simp [bootIsland, h, State.whenB]

theorem bootIsland_none (s : State) (h : bootBank s 2 = none) :
    bootIsland s = raise Ev.islBootFail [] (degrade (s.onIsl fun i => { i with bootFail := true })) := by
  simp [bootIsland, h]

section Restart

variable (s : State) (on : s.isl.on = true) (hreset : s.isl.procReset = true)

include on hreset

theorem exec_islandProcessorRelease_current (hb : bootBank s 2 = some s.sec.isl.cur) :
    exec .islandProcessorRelease s = .next { s with isl := { s.isl with
      procReset := false, toecapHeld := false, restartAt := s.log.elapsed, fwRun := true, bootFail := false } } := by
  rw [exec_islandProcessorRelease_held s on hreset,
    bootIsland_current (islReleased s) ((bootBank_islReleased s 2).trans hb)]
  rfl

theorem exec_islandProcessorRelease_fallback (hb : bootBank s 2 = some (!s.sec.isl.cur)) :
    Does .islandProcessorRelease s fun t =>
      Logged Ev.islBootFallback [] s t ∧
      t = { s with
        isl := { s.isl with
          procReset := false, toecapHeld := false, restartAt := s.log.elapsed, fwRun := true, bootFail := false }
        log := t.log, sec := { s.sec with isl := { s.sec.isl with cur := !s.sec.isl.cur } } } := by
  refine ⟨_, exec_islandProcessorRelease_held s on hreset, ?_⟩
  rw [bootIsland_other (islReleased s) ((bootBank_islReleased s 2).trans hb)]
  refine ⟨raise_island_log (by decide) _ rfl rfl, ?_⟩
  rw [raise_eq]
  rfl

theorem exec_islandProcessorRelease_fail (hb : bootBank s 2 = none) :
    Does .islandProcessorRelease s fun t =>
      Logged Ev.islBootFail [] s t ∧
      t = { s with
        isl := { s.isl with
          procReset := false, toecapHeld := false, restartAt := s.log.elapsed, bootFail := true, coolDegraded := true }
        log := t.log
        pwr := { s.pwr with
          event := s.pwr.event ||| 2
          inForceW := if mpRuns s = true then s.pwr.inForceW else min 400 s.pwr.inForceW
          issue := if mpRuns s = true then s.pwr.issue else min 4 s.pwr.issue } } := by
  refine ⟨_, exec_islandProcessorRelease_held s on hreset, ?_⟩
  rw [bootIsland_none (islReleased s) ((bootBank_islReleased s 2).trans hb), degrade_eq]
  refine ⟨raise_island_log (by decide) _ rfl rfl, ?_⟩
  rw [raise_eq]
  rfl

end Restart

/-! ## TOECAP_SET (R310) -/

/-- The timeout that a TOECAP_SET names (R208). -/
def toecapMs (r : Req) : Nat := clampN 10 1000 (fld (wd r.words 0) 0 16)

theorem toecapMs_ctxOf (r : Req) (s : State) :
    clampN 10 1000 (fld (wd (ctxOf 0x202 r s).words 0) 0 16) = toecapMs r := by
  have hword : wd (keptWords 0x202 r.words) 0 = wd r.words 0 :=
    wd_keptWords (v2 := true) (by decide) (by decide) _ (by decide : 0 < 1)
  simp only [ctxOf, hword, toecapMs]

theorem toecapSet_denied (r : Req) (s : State) (R : Ready 0x202 r s) (ha : s.isl.updateArm = true) :
    Answered 0x202 (.toecapSet r) r 6 [BitVec.ofNat 32 (toecapMs r)] s := by
  refine opcode_answered 0x202 _ _ r s 6 _ rfl R ?_
  have hrun : (running 0x202 r s).isl.updateArm = true := ha
  simp only [toecapMs_ctxOf, hrun, if_true]
  rfl

theorem toecapSet_done (r : Req) (s : State) (R : Ready 0x202 r s) (ha : s.isl.updateArm = false) :
    Ends 0x202 (.toecapSet r) r 0 [BitVec.ofNat 32 (toecapMs r)] s fun t =>
      t = { s with port := t.port, isl := { s.isl with timeoutMs := toecapMs r } } := by
  refine opcode_ends 0x202 _ _ r s ((running 0x202 r s).onIsl fun i => { i with timeoutMs := toecapMs r }) 0 _ _ rfl R
    ?_ rfl (fun q _ => by cases q <;> rfl) rfl
  have hrun : (running 0x202 r s).isl.updateArm = false := ha
  simp only [toecapMs_ctxOf, hrun, Bool.false_eq_true, if_false]
  rfl

end Sys2Proof.Machine

open Sys2Proof Sys2Proof.Machine

/-- Settles O49: one lemma per command of Toecap and case of it; the expiry is put together from its safe outputs, what
it shows, what it says on the row bus, and how it ends. -/
theorem toecap : Obligations.Toecap := by
  intro m w r s ms
  refine ⟨toecapSet_denied r s, toecapSet_done r s, fun on => ?_⟩
  refine ⟨exec_toecap_ignored m w s on, exec_toecapService_key s on, exec_toecapService_other w s on,
    fun hheld => ?held, exec_toecapExpiry_running s on, fun hreach hrail hearly => ?early,
    exec_toecapRelease_due s on, fun _ => exec_toecapRelease_rail s on, exec_islandProcessorRelease_running s on,
    exec_islandProcessorRelease_current s on, exec_islandProcessorRelease_fallback s on,
    exec_islandProcessorRelease_fail s on⟩
  case held => rw [exec_toecapExpiry s on, expire_held s hheld]
  case early =>
    rw [exec_toecapRelease_cobbler s on hreach, releaseToecap_early s hearly, releaseRail_of_not_forced s hrail]
end
